-- ==== Sys2Proof/Word.lean ====
section
/-! DEFINITION. The byte and the plainest arithmetic of the spec's notation (00_scope.md rules R11, R12, R15). -/

namespace Sys2Proof

/-- A byte: an unsigned integer in 0..255 (R11). -/
abbrev Byte := BitVec 8

/-- `lowbits n v` is `v mod 2^n`, the source's "low n bits" (R11). -/
abbrev lowbits (n v : Nat) : Nat := v % 2 ^ n

/-- `ones n` is `2^n - 1`, a bitmask of `n` one-bits (R11). -/
abbrev ones (n : Nat) : Nat := 2 ^ n - 1

end Sys2Proof
end

