-- ==== Sys2Proof/Config.lean ====
section
/-! DEFINITION. The parameters an implementation chooses (00_scope.md rules R9 and R10; log entries 5 and 6). Their
default values and the fixed constants stand in Machine/Rom.lean, the constraints on the Static Code Tables in
Machine/Tables.lean. -/

namespace Sys2Proof

/-- The values of the eight Static Code Tables (R37). -/
structure TableValues where
  /-- `LenBits[c]`: width of length code `c`, without the flag bit -/
  lenBits : List Nat
  /-- `LenCode[c]`: length code `c`, bit 0 first in stream order -/
  lenCode : List Nat
  /-- `ExLenBits[c]`: number of extra length bits of code `c` -/
  exLenBits : List Nat
  /-- `LenBase[c]`: first value of code `c` in the token space above 0x100 -/
  lenBase : List Nat
  /-- `DistBits[p]`: width of distance-position code `p` -/
  distBits : List Nat
  /-- `DistCode[p]`: distance-position code `p`, bit 0 first in stream order -/
  distCode : List Nat
  /-- `ChBitsAsc[b]`: full code width of byte `b` in Ascii mode, without the flag bit -/
  chBitsAsc : List Nat
  /-- `ChCodeAsc[b]`: Ascii-mode code of byte `b`, bit 0 first in stream order -/
  chCodeAsc : List Nat
deriving DecidableEq, Repr

/-- The Static Code Tables a block is built with (R9, R10, R46): read-only memory that all units share, and a parameter, with
defaults. R119 says what every choice must satisfy (`CodeTables.legal`). -/
inductive CodeTables where
  /-- the values of R120 to R122 -/
  | standard
  /-- a substitute (D12) -/
  | substitute (values : TableValues)
deriving DecidableEq, Repr

/-- The parameters an implementation chooses and every run keeps (R9, R46): the Static Code Tables, the output block
sizes of the two units and the switch for the lookahead hold. A model takes them as an argument: they stand in State,
and no step changes them (log entries 5, 6 and 22). -/
structure Config where
  tables : CodeTables
  /-- `BLOCK_X` (R283): at least 0x1000. -/
  blockX : Nat
  /-- `BLOCK_I` (R284): at least 1. -/
  blockI : Nat
  /-- `IMPLODE_LOOKAHEAD_HOLD` (R237). -/
  lookaheadHold : Bool
deriving DecidableEq, Repr

end Sys2Proof
end

