-- ==== Sys2Proof/Machine/Tables.lean ====
section
/-! DEFINITION. The decode-table generators (41_code_tables.md), the tables they build, and the constraints on the Static
Code Tables (30_encoding.md rule R119, 41_code_tables.md rule R170). -/

namespace Sys2Proof

/-! ### Table generators -/

/-- The stores of one code: `v` goes to every position `p = start, start + 2^w, start + 2·2^w, ...` of the table, and
every other slot keeps what it held (R160, R166 `populate`, R169). `p` is the position of the list's head. -/
def populateFrom {α : Type} (start w : Nat) (v : α) : Nat → List α → List α
  | _, [] => []
  | p, old :: rest =>
    (if start ≤ p ∧ (p - start) % 2 ^ w = 0 then v else old) :: populateFrom start w v (p + 1) rest

/-- `populate(T, start, w, v)` (R166). -/
def populate {α : Type} (table : List α) (start w : Nat) (v : α) : List α := populateFrom start w v 0 table

/-- The loop of R161 over the codes `i, i+1, ...` in ascending order: a later code wins a shared slot (R162). -/
def populateCodes : Nat → List Nat → List Nat → List Nat → List Nat
  | i, start :: starts, w :: widths, table => populateCodes (i + 1) starts widths (populate table start w i)
  | _, _, _, table => table

/-- `generateDecodeTables(startIndexes, bitWidths)` over a table of `size` slots, 256 in the block (R161): every slot
starts at 0. -/
def generateDecodeTables (size : Nat) (startIndexes bitWidths : List Nat) : List Nat :=
  populateCodes 0 startIndexes bitWidths (List.replicate size 0)

/-- The four ASCII auxiliary tables and the residual widths (R35, R165). `none` is "not filled" (R36, R169); in
`table2C34` the value 0xFF is the sentinel "look deeper". -/
structure AsciiTables where
  table2C34 : List (Option Byte)
  table2D34 : List (Option Byte)
  table2E34 : List (Option Byte)
  table2EB4 : List (Option Byte)
  /-- residual width of each symbol (R168) -/
  chBitsAsc : List Nat
deriving DecidableEq, Repr

/-- Every entry "not filled" (R166). -/
def AsciiTables.unfilled : AsciiTables :=
  { table2C34 := List.replicate 256 none, table2D34 := List.replicate 256 none,
    table2E34 := List.replicate 128 none, table2EB4 := List.replicate 256 none,
    chBitsAsc := List.replicate 256 0 }

/-- The body of R166's loop for symbol `i` of width `v` and code `code`; the strides of the second-level tables are two
to the residual width (R167). -/
def addSymbol (t : AsciiTables) (i v code : Nat) : AsciiTables :=
  let symbol : Option Byte := some (BitVec.ofNat 8 i)
  if v ≤ 8 then
    { t with table2C34 := populate t.table2C34 code v symbol, chBitsAsc := t.chBitsAsc.set i v }
  else
    let acc := lowbits 8 code
    if acc = 0 then
      { t with table2EB4 := populate t.table2EB4 (code >>> 8) (v - 8) symbol, chBitsAsc := t.chBitsAsc.set i (v - 8) }
    else if lowbits 6 acc = 0 then
      { t with
        table2C34 := t.table2C34.set acc (some 0xFF)
        table2E34 := populate t.table2E34 (code >>> 6) (v - 6) symbol
        chBitsAsc := t.chBitsAsc.set i (v - 6) }
    else
      { t with
        table2C34 := t.table2C34.set acc (some 0xFF)
        table2D34 := populate t.table2D34 (code >>> 4) (v - 4) symbol
        chBitsAsc := t.chBitsAsc.set i (v - 4) }

/-- The loop of R166 over the symbols `i, i+1, ...`. -/
def addSymbols : Nat → List Nat → List Nat → AsciiTables → AsciiTables
  | i, v :: widths, code :: codes, t => addSymbols (i + 1) widths codes (addSymbol t i v code)
  | _, _, _, t => t

/-- `generateAsciiTables()` (R165, R166). -/
def generateAsciiTables (k : CodeTables) : AsciiTables := addSymbols 0 k.chBitsAsc k.chCodeAsc AsciiTables.unfilled

/-- The decode tables an EXPLODE unit holds (R34, R35): the two dense tables, and the ASCII tables once they are built. -/
structure DecodeTables where
  lengthCodes : List Nat
  distPosCodes : List Nat
  ascii : Option AsciiTables
deriving DecidableEq, Repr

/-! ### The tables built from the default constants

Written out: they "depend on nothing but constants", so "a model may define all of them as constants" (R171, R343).
Laws/Tables.lean proves each equal to what its generator builds from the defaults. -/

/-- `lengthCodes` (R163). -/
def lengthCodesTable : List Nat :=
  [15, 2, 5, 1, 8, 0, 3, 1, 10, 2, 4, 1, 6, 0, 3, 1,
   12, 2, 5, 1, 7, 0, 3, 1, 9, 2, 4, 1, 6, 0, 3, 1,
   13, 2, 5, 1, 8, 0, 3, 1, 10, 2, 4, 1, 6, 0, 3, 1,
   11, 2, 5, 1, 7, 0, 3, 1, 9, 2, 4, 1, 6, 0, 3, 1,
   14, 2, 5, 1, 8, 0, 3, 1, 10, 2, 4, 1, 6, 0, 3, 1,
   12, 2, 5, 1, 7, 0, 3, 1, 9, 2, 4, 1, 6, 0, 3, 1,
   13, 2, 5, 1, 8, 0, 3, 1, 10, 2, 4, 1, 6, 0, 3, 1,
   11, 2, 5, 1, 7, 0, 3, 1, 9, 2, 4, 1, 6, 0, 3, 1,
   15, 2, 5, 1, 8, 0, 3, 1, 10, 2, 4, 1, 6, 0, 3, 1,
   12, 2, 5, 1, 7, 0, 3, 1, 9, 2, 4, 1, 6, 0, 3, 1,
   13, 2, 5, 1, 8, 0, 3, 1, 10, 2, 4, 1, 6, 0, 3, 1,
   11, 2, 5, 1, 7, 0, 3, 1, 9, 2, 4, 1, 6, 0, 3, 1,
   14, 2, 5, 1, 8, 0, 3, 1, 10, 2, 4, 1, 6, 0, 3, 1,
   12, 2, 5, 1, 7, 0, 3, 1, 9, 2, 4, 1, 6, 0, 3, 1,
   13, 2, 5, 1, 8, 0, 3, 1, 10, 2, 4, 1, 6, 0, 3, 1,
   11, 2, 5, 1, 7, 0, 3, 1, 9, 2, 4, 1, 6, 0, 3, 1]

/-- `distPosCodes` (R163). -/
def distPosCodesTable : List Nat :=
  [63, 6, 23, 0, 39, 2, 14, 0, 47, 4, 18, 0, 31, 1, 10, 0,
   55, 5, 20, 0, 35, 2, 12, 0, 43, 3, 16, 0, 27, 1, 8, 0,
   59, 6, 21, 0, 37, 2, 13, 0, 45, 4, 17, 0, 29, 1, 9, 0,
   51, 5, 19, 0, 33, 2, 11, 0, 41, 3, 15, 0, 25, 1, 7, 0,
   61, 6, 22, 0, 38, 2, 14, 0, 46, 4, 18, 0, 30, 1, 10, 0,
   53, 5, 20, 0, 34, 2, 12, 0, 42, 3, 16, 0, 26, 1, 8, 0,
   57, 6, 21, 0, 36, 2, 13, 0, 44, 4, 17, 0, 28, 1, 9, 0,
   49, 5, 19, 0, 32, 2, 11, 0, 40, 3, 15, 0, 24, 1, 7, 0,
   62, 6, 23, 0, 39, 2, 14, 0, 47, 4, 18, 0, 31, 1, 10, 0,
   54, 5, 20, 0, 35, 2, 12, 0, 43, 3, 16, 0, 27, 1, 8, 0,
   58, 6, 21, 0, 37, 2, 13, 0, 45, 4, 17, 0, 29, 1, 9, 0,
   50, 5, 19, 0, 33, 2, 11, 0, 41, 3, 15, 0, 25, 1, 7, 0,
   60, 6, 22, 0, 38, 2, 14, 0, 46, 4, 18, 0, 30, 1, 10, 0,
   52, 5, 20, 0, 34, 2, 12, 0, 42, 3, 16, 0, 26, 1, 8, 0,
   56, 6, 21, 0, 36, 2, 13, 0, 44, 4, 17, 0, 28, 1, 9, 0,
   48, 5, 19, 0, 32, 2, 11, 0, 40, 3, 15, 0, 24, 1, 7, 0]

/-- Table entries from numbers: 0x100 stands for "not filled". -/
def tableEntries (l : List Nat) : List (Option Byte) :=
  l.map fun n => if n < 0x100 then some (BitVec.ofNat 8 n) else none

/-- The ASCII tables (R166). -/
def asciiTables : AsciiTables where
  table2C34 := tableEntries
    [0x100, 0x49, 0x29, 0x6E, 0x6B, 0x74, 0x63, 0x61, 0x76, 0x31, 0x68, 0x69, 0x37, 0x72, 0x52, 0x20,
     0xFF, 0x43, 0x70, 0x6C, 0x46, 0x73, 0x54, 0x45, 0x36, 0x75, 0x66, 0x65, 0x32, 0x6F, 0x4E, 0x20,
     0xFF, 0x44, 0x0D, 0x6E, 0x50, 0x74, 0x62, 0x61, 0x48, 0x2D, 0x67, 0x69, 0x34, 0x72, 0x4F, 0x20,
     0xFF, 0x41, 0x6D, 0x6C, 0x3D, 0x73, 0x53, 0x45, 0x22, 0x75, 0x64, 0x65, 0x2E, 0x6F, 0x4C, 0x20,
     0xFF, 0x49, 0x28, 0x6E, 0x55, 0x74, 0x63, 0x61, 0x5B, 0x31, 0x68, 0x69, 0x35, 0x72, 0x52, 0x20,
     0xFF, 0x43, 0x70, 0x6C, 0x42, 0x73, 0x54, 0x45, 0x2A, 0x75, 0x66, 0x65, 0x30, 0x6F, 0x4E, 0x20,
     0xFF, 0x44, 0x0A, 0x6E, 0x4D, 0x74, 0x62, 0x61, 0x3A, 0x2D, 0x67, 0x69, 0x33, 0x72, 0x4F, 0x20,
     0x79, 0x41, 0x6D, 0x6C, 0x38, 0x73, 0x53, 0x45, 0x77, 0x75, 0x64, 0x65, 0x2C, 0x6F, 0x4C, 0x20,
     0xFF, 0x49, 0x29, 0x6E, 0x6B, 0x74, 0x63, 0x61, 0x5F, 0x31, 0x68, 0x69, 0x37, 0x72, 0x52, 0x20,
     0xFF, 0x43, 0x70, 0x6C, 0x46, 0x73, 0x54, 0x45, 0x2F, 0x75, 0x66, 0x65, 0x32, 0x6F, 0x4E, 0x20,
     0xFF, 0x44, 0x0D, 0x6E, 0x50, 0x74, 0x62, 0x61, 0x47, 0x2D, 0x67, 0x69, 0x34, 0x72, 0x4F, 0x20,
     0xFF, 0x41, 0x6D, 0x6C, 0x3D, 0x73, 0x53, 0x45, 0x09, 0x75, 0x64, 0x65, 0x2E, 0x6F, 0x4C, 0x20,
     0xFF, 0x49, 0x28, 0x6E, 0x55, 0x74, 0x63, 0x61, 0x57, 0x31, 0x68, 0x69, 0x35, 0x72, 0x52, 0x20,
     0xFF, 0x43, 0x70, 0x6C, 0x42, 0x73, 0x54, 0x45, 0x27, 0x75, 0x66, 0x65, 0x30, 0x6F, 0x4E, 0x20,
     0xFF, 0x44, 0x0A, 0x6E, 0x4D, 0x74, 0x62, 0x61, 0x39, 0x2D, 0x67, 0x69, 0x33, 0x72, 0x4F, 0x20,
     0x78, 0x41, 0x6D, 0x6C, 0x38, 0x73, 0x53, 0x45, 0x77, 0x75, 0x64, 0x65, 0x2C, 0x6F, 0x4C, 0x20]
  table2D34 := tableEntries
    [0x100, 0x7C, 0xCB, 0x56, 0x100, 0x24, 0x5E, 0x100, 0x100, 0x3C, 0xBB, 0x3E, 0x100, 0x59, 0x13, 0x100,
     0x100, 0x5A, 0xC3, 0x4B, 0x100, 0x5D, 0x1C, 0x100, 0x100, 0x71, 0xB3, 0x2B, 0x100, 0x58, 0x08, 0x100,
     0x100, 0x6A, 0xC7, 0x56, 0x100, 0x21, 0x23, 0x100, 0x100, 0x7A, 0xB7, 0x3E, 0x100, 0x59, 0x0F, 0x100,
     0x100, 0x4A, 0xBF, 0x4B, 0x100, 0x5D, 0x17, 0x100, 0x100, 0x26, 0x7F, 0x2B, 0x100, 0x58, 0x04, 0x100,
     0x100, 0x7B, 0xC9, 0x56, 0x100, 0x24, 0x3B, 0x100, 0x100, 0x00, 0xB9, 0x3E, 0x100, 0x59, 0x11, 0x100,
     0x100, 0x51, 0xC1, 0x4B, 0x100, 0x5D, 0x19, 0x100, 0x100, 0x71, 0xB1, 0x2B, 0x100, 0x58, 0x06, 0x100,
     0x100, 0x5C, 0xC5, 0x56, 0x100, 0x21, 0x1E, 0x100, 0x100, 0x7A, 0xB5, 0x3E, 0x100, 0x59, 0x0C, 0x100,
     0x100, 0x3F, 0xBD, 0x4B, 0x100, 0x5D, 0x15, 0x100, 0x100, 0x26, 0x7D, 0x2B, 0x100, 0x58, 0x02, 0x100,
     0x100, 0x7C, 0xCA, 0x56, 0x100, 0x24, 0x40, 0x100, 0x100, 0x3C, 0xBA, 0x3E, 0x100, 0x59, 0x12, 0x100,
     0x100, 0x5A, 0xC2, 0x4B, 0x100, 0x5D, 0x1B, 0x100, 0x100, 0x71, 0xB2, 0x2B, 0x100, 0x58, 0x07, 0x100,
     0x100, 0x6A, 0xC6, 0x56, 0x100, 0x21, 0x1F, 0x100, 0x100, 0x7A, 0xB6, 0x3E, 0x100, 0x59, 0x0E, 0x100,
     0x100, 0x4A, 0xBE, 0x4B, 0x100, 0x5D, 0x16, 0x100, 0x100, 0x26, 0x7E, 0x2B, 0x100, 0x58, 0x03, 0x100,
     0x100, 0x7B, 0xC8, 0x56, 0x100, 0x24, 0x25, 0x100, 0x100, 0x00, 0xB8, 0x3E, 0x100, 0x59, 0x10, 0x100,
     0x100, 0x51, 0xC0, 0x4B, 0x100, 0x5D, 0x18, 0x100, 0x100, 0x71, 0xB0, 0x2B, 0x100, 0x58, 0x05, 0x100,
     0x100, 0x5C, 0xC4, 0x56, 0x100, 0x21, 0x1D, 0x100, 0x100, 0x7A, 0xB4, 0x3E, 0x100, 0x59, 0x0B, 0x100,
     0x100, 0x3F, 0xBC, 0x4B, 0x100, 0x5D, 0x14, 0x100, 0x100, 0x26, 0x60, 0x2B, 0x100, 0x58, 0x01, 0x100]
  table2E34 := tableEntries
    [0x100, 0x88, 0xA8, 0xDB, 0x100, 0xEE, 0x98, 0xD3, 0x100, 0x80, 0xA0, 0xD7, 0x100, 0xDF, 0x90, 0xCF,
     0x100, 0x84, 0xA4, 0xD9, 0x100, 0xE5, 0x94, 0xD1, 0x100, 0xF3, 0x9C, 0xD5, 0x100, 0xDD, 0x8C, 0xCD,
     0x100, 0x86, 0xA6, 0xDA, 0x100, 0xE9, 0x96, 0xD2, 0x100, 0xF4, 0x9E, 0xD6, 0x100, 0xDE, 0x8E, 0xCE,
     0x100, 0x82, 0xA2, 0xD8, 0x100, 0xE1, 0x92, 0xD0, 0x100, 0xF2, 0x9A, 0xD4, 0x100, 0xDC, 0x8A, 0xCC,
     0x100, 0x87, 0xA7, 0xDB, 0x100, 0xEE, 0x97, 0xD3, 0x100, 0x1A, 0x9F, 0xD7, 0x100, 0xDF, 0x8F, 0xCF,
     0x100, 0x83, 0xA3, 0xD9, 0x100, 0xE5, 0x93, 0xD1, 0x100, 0xF3, 0x9B, 0xD5, 0x100, 0xDD, 0x8B, 0xCD,
     0x100, 0x85, 0xA5, 0xDA, 0x100, 0xE9, 0x95, 0xD2, 0x100, 0xF4, 0x9D, 0xD6, 0x100, 0xDE, 0x8D, 0xCE,
     0x100, 0x81, 0xA1, 0xD8, 0x100, 0xE1, 0x91, 0xD0, 0x100, 0xF2, 0x99, 0xD4, 0x100, 0xDC, 0x89, 0xCC]
  table2EB4 := tableEntries
    [0xFF, 0xEB, 0xF7, 0xE0, 0xFB, 0xE6, 0xF0, 0xAC, 0xFD, 0xE8, 0xF5, 0xAE, 0xF9, 0xE3, 0xED, 0xAA,
     0xFE, 0xEA, 0xF6, 0xAF, 0xFA, 0xE4, 0xEF, 0xAB, 0xFC, 0xE7, 0xF1, 0xAD, 0xF8, 0xE2, 0xEC, 0xA9,
     0xFF, 0xEB, 0xF7, 0xE0, 0xFB, 0xE6, 0xF0, 0xAC, 0xFD, 0xE8, 0xF5, 0xAE, 0xF9, 0xE3, 0xED, 0xAA,
     0xFE, 0xEA, 0xF6, 0xAF, 0xFA, 0xE4, 0xEF, 0xAB, 0xFC, 0xE7, 0xF1, 0xAD, 0xF8, 0xE2, 0xEC, 0xA9,
     0xFF, 0xEB, 0xF7, 0xE0, 0xFB, 0xE6, 0xF0, 0xAC, 0xFD, 0xE8, 0xF5, 0xAE, 0xF9, 0xE3, 0xED, 0xAA,
     0xFE, 0xEA, 0xF6, 0xAF, 0xFA, 0xE4, 0xEF, 0xAB, 0xFC, 0xE7, 0xF1, 0xAD, 0xF8, 0xE2, 0xEC, 0xA9,
     0xFF, 0xEB, 0xF7, 0xE0, 0xFB, 0xE6, 0xF0, 0xAC, 0xFD, 0xE8, 0xF5, 0xAE, 0xF9, 0xE3, 0xED, 0xAA,
     0xFE, 0xEA, 0xF6, 0xAF, 0xFA, 0xE4, 0xEF, 0xAB, 0xFC, 0xE7, 0xF1, 0xAD, 0xF8, 0xE2, 0xEC, 0xA9,
     0xFF, 0xEB, 0xF7, 0xE0, 0xFB, 0xE6, 0xF0, 0xAC, 0xFD, 0xE8, 0xF5, 0xAE, 0xF9, 0xE3, 0xED, 0xAA,
     0xFE, 0xEA, 0xF6, 0xAF, 0xFA, 0xE4, 0xEF, 0xAB, 0xFC, 0xE7, 0xF1, 0xAD, 0xF8, 0xE2, 0xEC, 0xA9,
     0xFF, 0xEB, 0xF7, 0xE0, 0xFB, 0xE6, 0xF0, 0xAC, 0xFD, 0xE8, 0xF5, 0xAE, 0xF9, 0xE3, 0xED, 0xAA,
     0xFE, 0xEA, 0xF6, 0xAF, 0xFA, 0xE4, 0xEF, 0xAB, 0xFC, 0xE7, 0xF1, 0xAD, 0xF8, 0xE2, 0xEC, 0xA9,
     0xFF, 0xEB, 0xF7, 0xE0, 0xFB, 0xE6, 0xF0, 0xAC, 0xFD, 0xE8, 0xF5, 0xAE, 0xF9, 0xE3, 0xED, 0xAA,
     0xFE, 0xEA, 0xF6, 0xAF, 0xFA, 0xE4, 0xEF, 0xAB, 0xFC, 0xE7, 0xF1, 0xAD, 0xF8, 0xE2, 0xEC, 0xA9,
     0xFF, 0xEB, 0xF7, 0xE0, 0xFB, 0xE6, 0xF0, 0xAC, 0xFD, 0xE8, 0xF5, 0xAE, 0xF9, 0xE3, 0xED, 0xAA,
     0xFE, 0xEA, 0xF6, 0xAF, 0xFA, 0xE4, 0xEF, 0xAB, 0xFC, 0xE7, 0xF1, 0xAD, 0xF8, 0xE2, 0xEC, 0xA9]
  chBitsAsc :=
    [7, 8, 8, 8, 8, 8, 8, 8, 8, 8, 7, 8, 8, 7, 8, 8,
     8, 8, 8, 8, 8, 8, 8, 8, 8, 8, 7, 8, 8, 8, 8, 8,
     4, 6, 8, 8, 6, 8, 6, 8, 7, 7, 8, 5, 7, 6, 7, 8,
     7, 6, 7, 7, 7, 7, 8, 7, 7, 8, 8, 8, 7, 7, 5, 7,
     8, 6, 7, 6, 6, 5, 7, 8, 8, 6, 7, 5, 6, 7, 6, 6,
     7, 7, 6, 6, 6, 7, 5, 8, 5, 5, 7, 8, 7, 5, 8, 8,
     8, 5, 6, 6, 6, 5, 6, 6, 6, 5, 7, 7, 5, 6, 5, 5,
     6, 6, 5, 5, 5, 5, 8, 7, 8, 8, 6, 7, 7, 8, 8, 8,
     7, 7, 7, 7, 7, 7, 7, 7, 7, 7, 7, 7, 7, 7, 7, 7,
     7, 7, 7, 7, 7, 7, 7, 7, 7, 7, 7, 7, 7, 7, 7, 7,
     7, 7, 7, 7, 7, 7, 7, 7, 7, 5, 5, 5, 5, 5, 5, 5,
     8, 8, 8, 8, 8, 8, 8, 8, 8, 8, 8, 8, 8, 8, 8, 8,
     8, 8, 8, 8, 8, 8, 8, 8, 8, 8, 8, 8, 6, 6, 6, 6,
     6, 6, 6, 6, 6, 6, 6, 6, 6, 6, 6, 6, 6, 6, 6, 6,
     5, 6, 5, 5, 5, 6, 5, 5, 5, 6, 5, 5, 5, 5, 6, 5,
     5, 5, 6, 6, 6, 5, 5, 5, 5, 5, 5, 5, 5, 5, 5, 5]

/-! ### The tables a unit builds

Each is what its generator makes of the Static Code Tables (`lengthCodesOf_eq`, `distPosCodesOf_eq` and `asciiTablesOf_eq`
of Laws/Tables.lean). For the default constants it is taken as written out above, so that a step is quickly evaluated. -/

/-- `lengthCodes = generateDecodeTables(LenCode, LenBits)` (R163). -/
def lengthCodesOf (k : CodeTables) : List Nat :=
  match k with
  | .standard => lengthCodesTable
  | .substitute v => generateDecodeTables 256 v.lenCode v.lenBits

/-- `distPosCodes = generateDecodeTables(DistCode, DistBits)` (R163). -/
def distPosCodesOf (k : CodeTables) : List Nat :=
  match k with
  | .standard => distPosCodesTable
  | .substitute v => generateDecodeTables 256 v.distCode v.distBits

/-- The ASCII tables, `generateAsciiTables()` (R166). -/
def asciiTablesOf (k : CodeTables) : AsciiTables :=
  match k with
  | .standard => asciiTables
  | .substitute _ => generateAsciiTables k

/-- The tables `X.RESET` builds (R47, R163, R171): the dense ones; the ASCII tables are not built. -/
def DecodeTables.built (k : CodeTables) : DecodeTables :=
  { lengthCodes := lengthCodesOf k, distPosCodes := distPosCodesOf k, ascii := none }

/-- The same with the ASCII tables built (R35, R171). -/
def DecodeTables.withAscii (k : CodeTables) (t : DecodeTables) : DecodeTables := { t with ascii := some (asciiTablesOf k) }

/-! ### What every choice of the Static Code Tables must satisfy

The eight items of R119, the widths of R37, and the properties of the ASCII tables that "a model with other tables must
re-establish ... or refuse" (R170). Tables that violate one are refused (U10, log entry 5). -/

/-- Two codes `(width, pattern)` collide when their stride patterns share a slot, that is, when they agree on the bits
both have: one is a prefix of the other in stream order (R119 item 3). -/
def collide (a b : Nat × Nat) : Bool := a.2 % 2 ^ min a.1 b.1 == b.2 % 2 ^ min a.1 b.1

/-- No two codes of a family collide (R119 item 3). -/
def prefixFree : List (Nat × Nat) → Bool
  | [] => true
  | a :: rest => rest.all (fun b => !collide a b) && prefixFree rest

/-- Every code of a family is 1 to `most` bits wide and has no bit above its width (R119 items 2 and 7). -/
def codesFit (most : Nat) (family : List (Nat × Nat)) : Bool :=
  family.all fun c => decide (1 ≤ c.1) && decide (c.1 ≤ most) && decide (c.2 < 2 ^ c.1)

/-- The ranges `LenBase[c] .. LenBase[c] + 2^ExLenBits[c] - 1` follow one another from `base` on and end before 0x206
(R119 item 4). -/
def tiles : Nat → List Nat → List Nat → Bool
  | base, b :: bases, n :: widths => b == base && tiles (base + 2 ^ n) bases widths
  | base, _, _ => base == 0x206

/-- A symbol's residual width is bounded by the index width of its second-level table (R119 item 7). -/
def residualFits (c : Nat × Nat) : Bool :=
  decide (c.1 ≤ 8) ||
    (if c.2 % 2 ^ 8 = 0 then decide (c.1 - 8 ≤ 8)
     else if c.2 % 2 ^ 6 = 0 then decide (c.1 - 6 ≤ 7)
     else decide (c.1 - 4 ≤ 8))

/-- The length codes, as (width, pattern). -/
def CodeTables.lengthFamily (k : CodeTables) : List (Nat × Nat) := k.lenBits.zip k.lenCode

/-- The distance-position codes. -/
def CodeTables.distanceFamily (k : CodeTables) : List (Nat × Nat) := k.distBits.zip k.distCode

/-- The Ascii literal codes. -/
def CodeTables.asciiFamily (k : CodeTables) : List (Nat × Nat) := k.chBitsAsc.zip k.chCodeAsc

/-- 16 length codes, 64 distance-position codes, 256 symbols (R119 items 1 and 8). -/
def CodeTables.sized (k : CodeTables) : Bool :=
  k.lenBits.length == 16 && k.lenCode.length == 16 && k.exLenBits.length == 16 && k.lenBase.length == 16 &&
    k.distBits.length == 64 && k.distCode.length == 64 && k.chBitsAsc.length == 256 && k.chCodeAsc.length == 256

/-- R119 items 4 to 6: the token space is tiled, END is `c = 15`, `e = 0xFF` of 8 extra bits, and token 0x100 is code 0
alone. -/
def CodeTables.lengthsTile (k : CodeTables) : Bool :=
  tiles 0 k.lenBase k.exLenBits && k.exLenBits[15]? == some 8 && k.lenBase[15]? == some 0x106 &&
    k.lenBase[0]? == some 0 && k.exLenBits[0]? == some 0

/-- The eight items of R119. -/
def CodeTables.constrained (k : CodeTables) : Bool :=
  k.sized && codesFit 8 k.lengthFamily && codesFit 8 k.distanceFamily && codesFit 16 k.asciiFamily &&
    prefixFree k.lengthFamily && prefixFree k.distanceFamily && prefixFree k.asciiFamily &&
    k.lengthsTile && k.asciiFamily.all residualFits

/-- The values fit the memory that holds them: `LenBits` 3 bits, `ChBitsAsc` 4 bits, `ChCodeAsc` 13 bits (R37; the widths of
the other tables follow from R119). So every token fits the 16 bits of `literalCodes` (R43). -/
def CodeTables.widthsFit (k : CodeTables) : Bool :=
  k.lenBits.all (fun n => decide (n < 2 ^ 3)) && k.chBitsAsc.all (fun n => decide (n < 2 ^ 4)) &&
    k.chCodeAsc.all (fun n => decide (n < 2 ^ 13))

/-- Every slot of the progression `start, start + 2^w, ...` holds the symbol; `p` is the position of the list's head. -/
def keepsFrom (start w : Nat) (symbol : Byte) : Nat → List (Option Byte) → Bool
  | _, [] => true
  | p, entry :: rest =>
    (if p % 2 ^ w = start then entry == some symbol else true) && keepsFrom start w symbol (p + 1) rest

/-- The stores of a symbol are still in the table. -/
def keeps (table : List (Option Byte)) (start w i : Nat) : Bool := keepsFrom start w (BitVec.ofNat 8 i) 0 table

/-- "No slot of any table is written with two different values" (R170 item 1): what symbol `i` stored is still there. -/
def AsciiTables.keepsSymbol (k : CodeTables) (t : AsciiTables) (i : Nat) : Bool :=
  let v := k.chBitsAsc.getD i 0
  let code := k.chCodeAsc.getD i 0
  if v ≤ 8 then keeps t.table2C34 code v i
  else if lowbits 8 code = 0 then keeps t.table2EB4 (code >>> 8) (v - 8) i
  else t.table2C34.getD (lowbits 8 code) none == some 0xFF &&
    (if lowbits 6 code = 0 then keeps t.table2E34 (code >>> 6) (v - 6) i
     else keeps t.table2D34 (code >>> 4) (v - 4) i)

/-- The entry is a symbol whose code the bits `x` begin with, and wasting `shift` bits and then its residual width wastes
its whole width (R170 item 4). -/
def AsciiTables.finds (k : CodeTables) (t : AsciiTables) (entry : Option Byte) (shift x : Nat) : Bool :=
  match entry with
  | some b =>
    lowbits (k.chBitsAsc.getD b.toNat 0) x == k.chCodeAsc.getD b.toNat 0 &&
      shift + t.chBitsAsc.getD b.toNat 0 == k.chBitsAsc.getD b.toNat 0
  | none => false

/-- R170 item 4 (and item 2, which it entails): the walk of R188 to R191 finds the right symbol whatever the bits are.
`x` is the 8 bits after the flag, `y` the bits the second level adds to them. -/
def AsciiTables.walksRight (k : CodeTables) (t : AsciiTables) : Bool :=
  (List.range 256).all fun x =>
    if x = 0 then (List.range 256).all fun y => t.finds k (t.table2EB4.getD y none) 8 (y <<< 8)
    else if t.table2C34.getD x none = some 0xFF then
      if lowbits 6 x ≠ 0 then
        (List.range 16).all fun y => t.finds k (t.table2D34.getD ((x + y <<< 8) >>> 4) none) 4 (x + y <<< 8)
      else (List.range 32).all fun y => t.finds k (t.table2E34.getD ((x + y <<< 8) >>> 6) none) 6 (x + y <<< 8)
    else t.finds k (t.table2C34.getD x none) 0 x

/-- The ASCII tables built from the constants have the properties of R170. -/
def CodeTables.asciiReady (k : CodeTables) : Bool :=
  (List.range 256).all ((generateAsciiTables k).keepsSymbol k) && (generateAsciiTables k).walksRight k

/-- A choice of the Static Code Tables that the block can be built with (R9, R119, U10). -/
def CodeTables.legal (k : CodeTables) : Bool := k.constrained && k.widthsFit && k.asciiReady

/-- The check a RESET makes (`admitted_eq_legal` of Laws/Tables.lean: it is `legal`). The default tables, which satisfy
everything (R119, R170), pass without being checked anew. -/
def CodeTables.admitted (k : CodeTables) : Bool :=
  match k with
  | .standard => true
  | .substitute _ => k.legal

/-- No slot of the dense tables is left unwritten (R163): every 8 bits begin with a code of either family. The default
tables have this too; R119 does not ask for it. -/
def CodeTables.complete (k : CodeTables) : Bool :=
  (List.range 256).all fun x =>
    k.lengthFamily.any (fun c => lowbits c.1 x == c.2) && k.distanceFamily.any (fun c => lowbits c.1 x == c.2)

/-- The bounds R9 puts on the parameters. RESET checks those on the tables; the ones on the block sizes are a premise of
statements (log entry 22). -/
def Config.legal (c : Config) : Bool := decide (0x1000 ≤ c.blockX) && decide (1 ≤ c.blockI) && c.tables.legal

end Sys2Proof
end

