-- ==== Sys2Proof/Syntax.lean ====
section
/-! DEFINITION. The instructions: one constructor per row of spec/opcode_table.json (30_encoding.md rule R123), the two
closed configuration types, the host's command transaction and the code space an instruction is read in. -/

namespace Sys2Proof

/-- CompressionMode (R22): 0 = Binary, 1 = Ascii on the wire. A closed type, so that no other value is ever stored. -/
inductive CompressionMode where
  | binary
  | ascii
deriving DecidableEq, Repr

/-- DictionarySize (R23): 4 = Small, 5 = Medium, 6 = Large on the wire. A closed type, as R22's. -/
inductive DictionarySize where
  | small
  | medium
  | large
deriving DecidableEq, Repr

/-- A host transaction (R44, R117): the 3-bit command word and the operand bytes that come with it. -/
structure HostCommand where
  /-- `(unit, cmd[1:0])`, `unit` in bit 2 (R117). -/
  word : BitVec 3
  /-- the operand: the chunk of a PUSH, `[mode byte, dictBits byte]` of `I.RESET`, nothing otherwise -/
  operand : List Byte
deriving DecidableEq, Repr

/-- Where an instruction is read, which fixes how its bits are read: the host's command channel, the stream header, a
token boundary in the mode of the header, or the distance part that follows a length part (R113: "`mode` and
`dictBits` from the header are the only context that changes decoding"). -/
inductive Space where
  | host
  | header
  | token (mode : CompressionMode)
  | distance (repeatLength : Nat) (dictBits : DictionarySize) (distMask : BitVec 6)
deriving DecidableEq, Repr

/-- The instructions, one constructor per row of the table (the 256 operand-free rows `LIT.A.00` to `LIT.A.FF` last).
`litA41` is the row `LIT.A.41`; `len8 e` is `LEN.8` with extra length bits `e`, as many as the Static Code Tables give the
code, 8 at the most. `LEN.0` never has any (R119 item 6); by default `LEN.1` to `LEN.7` have none (R120), so their operand
is 0 where it is not written. `dist5 low` is `DIST.5` with low distance bits `low` (2 of them used when the repeat length is
2, `dictBits` otherwise); `endToken` is `END`. -/
inductive Instr where
  | header (compressionType dictionarySizeBits seed : Byte)
  | litB (b : Byte)
  | len0
  | len1 (e : BitVec 8 := 0)
  | len2 (e : BitVec 8 := 0)
  | len3 (e : BitVec 8 := 0)
  | len4 (e : BitVec 8 := 0)
  | len5 (e : BitVec 8 := 0)
  | len6 (e : BitVec 8 := 0)
  | len7 (e : BitVec 8 := 0)
  | len8 (e : BitVec 8)
  | len9 (e : BitVec 8)
  | len10 (e : BitVec 8)
  | len11 (e : BitVec 8)
  | len12 (e : BitVec 8)
  | len13 (e : BitVec 8)
  | len14 (e : BitVec 8)
  | endToken
  | len15 (e : BitVec 8)
  | dist0 (low : BitVec 6)
  | dist1 (low : BitVec 6)
  | dist2 (low : BitVec 6)
  | dist3 (low : BitVec 6)
  | dist4 (low : BitVec 6)
  | dist5 (low : BitVec 6)
  | dist6 (low : BitVec 6)
  | dist7 (low : BitVec 6)
  | dist8 (low : BitVec 6)
  | dist9 (low : BitVec 6)
  | dist10 (low : BitVec 6)
  | dist11 (low : BitVec 6)
  | dist12 (low : BitVec 6)
  | dist13 (low : BitVec 6)
  | dist14 (low : BitVec 6)
  | dist15 (low : BitVec 6)
  | dist16 (low : BitVec 6)
  | dist17 (low : BitVec 6)
  | dist18 (low : BitVec 6)
  | dist19 (low : BitVec 6)
  | dist20 (low : BitVec 6)
  | dist21 (low : BitVec 6)
  | dist22 (low : BitVec 6)
  | dist23 (low : BitVec 6)
  | dist24 (low : BitVec 6)
  | dist25 (low : BitVec 6)
  | dist26 (low : BitVec 6)
  | dist27 (low : BitVec 6)
  | dist28 (low : BitVec 6)
  | dist29 (low : BitVec 6)
  | dist30 (low : BitVec 6)
  | dist31 (low : BitVec 6)
  | dist32 (low : BitVec 6)
  | dist33 (low : BitVec 6)
  | dist34 (low : BitVec 6)
  | dist35 (low : BitVec 6)
  | dist36 (low : BitVec 6)
  | dist37 (low : BitVec 6)
  | dist38 (low : BitVec 6)
  | dist39 (low : BitVec 6)
  | dist40 (low : BitVec 6)
  | dist41 (low : BitVec 6)
  | dist42 (low : BitVec 6)
  | dist43 (low : BitVec 6)
  | dist44 (low : BitVec 6)
  | dist45 (low : BitVec 6)
  | dist46 (low : BitVec 6)
  | dist47 (low : BitVec 6)
  | dist48 (low : BitVec 6)
  | dist49 (low : BitVec 6)
  | dist50 (low : BitVec 6)
  | dist51 (low : BitVec 6)
  | dist52 (low : BitVec 6)
  | dist53 (low : BitVec 6)
  | dist54 (low : BitVec 6)
  | dist55 (low : BitVec 6)
  | dist56 (low : BitVec 6)
  | dist57 (low : BitVec 6)
  | dist58 (low : BitVec 6)
  | dist59 (low : BitVec 6)
  | dist60 (low : BitVec 6)
  | dist61 (low : BitVec 6)
  | dist62 (low : BitVec 6)
  | dist63 (low : BitVec 6)
  | xReset
  | xPush (bytes : List Byte)
  | xFinish
  | iReset (mode dictBits : Byte)
  | iPush (bytes : List Byte)
  | iFinish
  | litA00
  | litA01
  | litA02
  | litA03
  | litA04
  | litA05
  | litA06
  | litA07
  | litA08
  | litA09
  | litA0A
  | litA0B
  | litA0C
  | litA0D
  | litA0E
  | litA0F
  | litA10
  | litA11
  | litA12
  | litA13
  | litA14
  | litA15
  | litA16
  | litA17
  | litA18
  | litA19
  | litA1A
  | litA1B
  | litA1C
  | litA1D
  | litA1E
  | litA1F
  | litA20
  | litA21
  | litA22
  | litA23
  | litA24
  | litA25
  | litA26
  | litA27
  | litA28
  | litA29
  | litA2A
  | litA2B
  | litA2C
  | litA2D
  | litA2E
  | litA2F
  | litA30
  | litA31
  | litA32
  | litA33
  | litA34
  | litA35
  | litA36
  | litA37
  | litA38
  | litA39
  | litA3A
  | litA3B
  | litA3C
  | litA3D
  | litA3E
  | litA3F
  | litA40
  | litA41
  | litA42
  | litA43
  | litA44
  | litA45
  | litA46
  | litA47
  | litA48
  | litA49
  | litA4A
  | litA4B
  | litA4C
  | litA4D
  | litA4E
  | litA4F
  | litA50
  | litA51
  | litA52
  | litA53
  | litA54
  | litA55
  | litA56
  | litA57
  | litA58
  | litA59
  | litA5A
  | litA5B
  | litA5C
  | litA5D
  | litA5E
  | litA5F
  | litA60
  | litA61
  | litA62
  | litA63
  | litA64
  | litA65
  | litA66
  | litA67
  | litA68
  | litA69
  | litA6A
  | litA6B
  | litA6C
  | litA6D
  | litA6E
  | litA6F
  | litA70
  | litA71
  | litA72
  | litA73
  | litA74
  | litA75
  | litA76
  | litA77
  | litA78
  | litA79
  | litA7A
  | litA7B
  | litA7C
  | litA7D
  | litA7E
  | litA7F
  | litA80
  | litA81
  | litA82
  | litA83
  | litA84
  | litA85
  | litA86
  | litA87
  | litA88
  | litA89
  | litA8A
  | litA8B
  | litA8C
  | litA8D
  | litA8E
  | litA8F
  | litA90
  | litA91
  | litA92
  | litA93
  | litA94
  | litA95
  | litA96
  | litA97
  | litA98
  | litA99
  | litA9A
  | litA9B
  | litA9C
  | litA9D
  | litA9E
  | litA9F
  | litAA0
  | litAA1
  | litAA2
  | litAA3
  | litAA4
  | litAA5
  | litAA6
  | litAA7
  | litAA8
  | litAA9
  | litAAA
  | litAAB
  | litAAC
  | litAAD
  | litAAE
  | litAAF
  | litAB0
  | litAB1
  | litAB2
  | litAB3
  | litAB4
  | litAB5
  | litAB6
  | litAB7
  | litAB8
  | litAB9
  | litABA
  | litABB
  | litABC
  | litABD
  | litABE
  | litABF
  | litAC0
  | litAC1
  | litAC2
  | litAC3
  | litAC4
  | litAC5
  | litAC6
  | litAC7
  | litAC8
  | litAC9
  | litACA
  | litACB
  | litACC
  | litACD
  | litACE
  | litACF
  | litAD0
  | litAD1
  | litAD2
  | litAD3
  | litAD4
  | litAD5
  | litAD6
  | litAD7
  | litAD8
  | litAD9
  | litADA
  | litADB
  | litADC
  | litADD
  | litADE
  | litADF
  | litAE0
  | litAE1
  | litAE2
  | litAE3
  | litAE4
  | litAE5
  | litAE6
  | litAE7
  | litAE8
  | litAE9
  | litAEA
  | litAEB
  | litAEC
  | litAED
  | litAEE
  | litAEF
  | litAF0
  | litAF1
  | litAF2
  | litAF3
  | litAF4
  | litAF5
  | litAF6
  | litAF7
  | litAF8
  | litAF9
  | litAFA
  | litAFB
  | litAFC
  | litAFD
  | litAFE
  | litAFF
deriving DecidableEq, Repr

end Sys2Proof
end

