-- ==== Sys2Proof/Machine/Shape.lean ====
section
/-! DEFINITION. Views of the syntax that every later layer shares: the values of the two configuration types, the shape
of an instruction (which family, which operands), and the constructors of each family by index. -/

namespace Sys2Proof

/-- The wire byte of a CompressionMode (R22, R101). -/
def CompressionMode.toByte : CompressionMode → Byte
  | .binary => 0
  | .ascii => 1

/-- All 8 bits of header byte 0 are compared (R101); any other value is no mode (R102). -/
def CompressionMode.ofByte (b : Byte) : Option CompressionMode :=
  if b = 0 then some .binary else if b = 1 then some .ascii else none

/-- `dictBits` (R23). -/
def DictionarySize.bits : DictionarySize → Nat
  | .small => 4
  | .medium => 5
  | .large => 6

/-- The wire byte of a DictionarySize (R23, R101). -/
def DictionarySize.toByte (d : DictionarySize) : Byte := BitVec.ofNat 8 d.bits

/-- Header byte 1 as a DictionarySize (R102). -/
def DictionarySize.ofByte (b : Byte) : Option DictionarySize :=
  if b = 4 then some .small else if b = 5 then some .medium else if b = 6 then some .large else none

/-- `distMask = ones(dictBits)` (R24). -/
def DictionarySize.distMask (d : DictionarySize) : BitVec 6 := BitVec.ofNat 6 (ones d.bits)

/-- `W = 2^(dictBits+6)` (R24). -/
def DictionarySize.window (d : DictionarySize) : BitVec 13 := BitVec.ofNat 13 (2 ^ (d.bits + 6))

/-- Width of the low distance bits (R108): 2 when the repeat length is 2, `dictBits` otherwise. -/
def lowWidth (repeatLength : Nat) (d : DictionarySize) : Nat := if repeatLength = 2 then 2 else d.bits

/-- The family of an instruction with its operands as plain values. -/
inductive Shape where
  | header (compressionType dictionarySizeBits seed : Byte)
  | literalBinary (b : Byte)
  | literalAscii (b : Byte)
  | length (c e : Nat)
  | endOfStream
  | distance (p : Nat) (low : BitVec 6)
  | command (c : HostCommand)
deriving DecidableEq, Repr

/-- The shape of each instruction: the operands its row of the table fixes (`c`, `p`, the Ascii symbol, the command
word of R117) and those it carries. -/
def Instr.shape : Instr → Shape
  | .header m d s => .header m d s
  | .litB b => .literalBinary b
  | .litA00 => .literalAscii 0x00
  | .litA01 => .literalAscii 0x01
  | .litA02 => .literalAscii 0x02
  | .litA03 => .literalAscii 0x03
  | .litA04 => .literalAscii 0x04
  | .litA05 => .literalAscii 0x05
  | .litA06 => .literalAscii 0x06
  | .litA07 => .literalAscii 0x07
  | .litA08 => .literalAscii 0x08
  | .litA09 => .literalAscii 0x09
  | .litA0A => .literalAscii 0x0A
  | .litA0B => .literalAscii 0x0B
  | .litA0C => .literalAscii 0x0C
  | .litA0D => .literalAscii 0x0D
  | .litA0E => .literalAscii 0x0E
  | .litA0F => .literalAscii 0x0F
  | .litA10 => .literalAscii 0x10
  | .litA11 => .literalAscii 0x11
  | .litA12 => .literalAscii 0x12
  | .litA13 => .literalAscii 0x13
  | .litA14 => .literalAscii 0x14
  | .litA15 => .literalAscii 0x15
  | .litA16 => .literalAscii 0x16
  | .litA17 => .literalAscii 0x17
  | .litA18 => .literalAscii 0x18
  | .litA19 => .literalAscii 0x19
  | .litA1A => .literalAscii 0x1A
  | .litA1B => .literalAscii 0x1B
  | .litA1C => .literalAscii 0x1C
  | .litA1D => .literalAscii 0x1D
  | .litA1E => .literalAscii 0x1E
  | .litA1F => .literalAscii 0x1F
  | .litA20 => .literalAscii 0x20
  | .litA21 => .literalAscii 0x21
  | .litA22 => .literalAscii 0x22
  | .litA23 => .literalAscii 0x23
  | .litA24 => .literalAscii 0x24
  | .litA25 => .literalAscii 0x25
  | .litA26 => .literalAscii 0x26
  | .litA27 => .literalAscii 0x27
  | .litA28 => .literalAscii 0x28
  | .litA29 => .literalAscii 0x29
  | .litA2A => .literalAscii 0x2A
  | .litA2B => .literalAscii 0x2B
  | .litA2C => .literalAscii 0x2C
  | .litA2D => .literalAscii 0x2D
  | .litA2E => .literalAscii 0x2E
  | .litA2F => .literalAscii 0x2F
  | .litA30 => .literalAscii 0x30
  | .litA31 => .literalAscii 0x31
  | .litA32 => .literalAscii 0x32
  | .litA33 => .literalAscii 0x33
  | .litA34 => .literalAscii 0x34
  | .litA35 => .literalAscii 0x35
  | .litA36 => .literalAscii 0x36
  | .litA37 => .literalAscii 0x37
  | .litA38 => .literalAscii 0x38
  | .litA39 => .literalAscii 0x39
  | .litA3A => .literalAscii 0x3A
  | .litA3B => .literalAscii 0x3B
  | .litA3C => .literalAscii 0x3C
  | .litA3D => .literalAscii 0x3D
  | .litA3E => .literalAscii 0x3E
  | .litA3F => .literalAscii 0x3F
  | .litA40 => .literalAscii 0x40
  | .litA41 => .literalAscii 0x41
  | .litA42 => .literalAscii 0x42
  | .litA43 => .literalAscii 0x43
  | .litA44 => .literalAscii 0x44
  | .litA45 => .literalAscii 0x45
  | .litA46 => .literalAscii 0x46
  | .litA47 => .literalAscii 0x47
  | .litA48 => .literalAscii 0x48
  | .litA49 => .literalAscii 0x49
  | .litA4A => .literalAscii 0x4A
  | .litA4B => .literalAscii 0x4B
  | .litA4C => .literalAscii 0x4C
  | .litA4D => .literalAscii 0x4D
  | .litA4E => .literalAscii 0x4E
  | .litA4F => .literalAscii 0x4F
  | .litA50 => .literalAscii 0x50
  | .litA51 => .literalAscii 0x51
  | .litA52 => .literalAscii 0x52
  | .litA53 => .literalAscii 0x53
  | .litA54 => .literalAscii 0x54
  | .litA55 => .literalAscii 0x55
  | .litA56 => .literalAscii 0x56
  | .litA57 => .literalAscii 0x57
  | .litA58 => .literalAscii 0x58
  | .litA59 => .literalAscii 0x59
  | .litA5A => .literalAscii 0x5A
  | .litA5B => .literalAscii 0x5B
  | .litA5C => .literalAscii 0x5C
  | .litA5D => .literalAscii 0x5D
  | .litA5E => .literalAscii 0x5E
  | .litA5F => .literalAscii 0x5F
  | .litA60 => .literalAscii 0x60
  | .litA61 => .literalAscii 0x61
  | .litA62 => .literalAscii 0x62
  | .litA63 => .literalAscii 0x63
  | .litA64 => .literalAscii 0x64
  | .litA65 => .literalAscii 0x65
  | .litA66 => .literalAscii 0x66
  | .litA67 => .literalAscii 0x67
  | .litA68 => .literalAscii 0x68
  | .litA69 => .literalAscii 0x69
  | .litA6A => .literalAscii 0x6A
  | .litA6B => .literalAscii 0x6B
  | .litA6C => .literalAscii 0x6C
  | .litA6D => .literalAscii 0x6D
  | .litA6E => .literalAscii 0x6E
  | .litA6F => .literalAscii 0x6F
  | .litA70 => .literalAscii 0x70
  | .litA71 => .literalAscii 0x71
  | .litA72 => .literalAscii 0x72
  | .litA73 => .literalAscii 0x73
  | .litA74 => .literalAscii 0x74
  | .litA75 => .literalAscii 0x75
  | .litA76 => .literalAscii 0x76
  | .litA77 => .literalAscii 0x77
  | .litA78 => .literalAscii 0x78
  | .litA79 => .literalAscii 0x79
  | .litA7A => .literalAscii 0x7A
  | .litA7B => .literalAscii 0x7B
  | .litA7C => .literalAscii 0x7C
  | .litA7D => .literalAscii 0x7D
  | .litA7E => .literalAscii 0x7E
  | .litA7F => .literalAscii 0x7F
  | .litA80 => .literalAscii 0x80
  | .litA81 => .literalAscii 0x81
  | .litA82 => .literalAscii 0x82
  | .litA83 => .literalAscii 0x83
  | .litA84 => .literalAscii 0x84
  | .litA85 => .literalAscii 0x85
  | .litA86 => .literalAscii 0x86
  | .litA87 => .literalAscii 0x87
  | .litA88 => .literalAscii 0x88
  | .litA89 => .literalAscii 0x89
  | .litA8A => .literalAscii 0x8A
  | .litA8B => .literalAscii 0x8B
  | .litA8C => .literalAscii 0x8C
  | .litA8D => .literalAscii 0x8D
  | .litA8E => .literalAscii 0x8E
  | .litA8F => .literalAscii 0x8F
  | .litA90 => .literalAscii 0x90
  | .litA91 => .literalAscii 0x91
  | .litA92 => .literalAscii 0x92
  | .litA93 => .literalAscii 0x93
  | .litA94 => .literalAscii 0x94
  | .litA95 => .literalAscii 0x95
  | .litA96 => .literalAscii 0x96
  | .litA97 => .literalAscii 0x97
  | .litA98 => .literalAscii 0x98
  | .litA99 => .literalAscii 0x99
  | .litA9A => .literalAscii 0x9A
  | .litA9B => .literalAscii 0x9B
  | .litA9C => .literalAscii 0x9C
  | .litA9D => .literalAscii 0x9D
  | .litA9E => .literalAscii 0x9E
  | .litA9F => .literalAscii 0x9F
  | .litAA0 => .literalAscii 0xA0
  | .litAA1 => .literalAscii 0xA1
  | .litAA2 => .literalAscii 0xA2
  | .litAA3 => .literalAscii 0xA3
  | .litAA4 => .literalAscii 0xA4
  | .litAA5 => .literalAscii 0xA5
  | .litAA6 => .literalAscii 0xA6
  | .litAA7 => .literalAscii 0xA7
  | .litAA8 => .literalAscii 0xA8
  | .litAA9 => .literalAscii 0xA9
  | .litAAA => .literalAscii 0xAA
  | .litAAB => .literalAscii 0xAB
  | .litAAC => .literalAscii 0xAC
  | .litAAD => .literalAscii 0xAD
  | .litAAE => .literalAscii 0xAE
  | .litAAF => .literalAscii 0xAF
  | .litAB0 => .literalAscii 0xB0
  | .litAB1 => .literalAscii 0xB1
  | .litAB2 => .literalAscii 0xB2
  | .litAB3 => .literalAscii 0xB3
  | .litAB4 => .literalAscii 0xB4
  | .litAB5 => .literalAscii 0xB5
  | .litAB6 => .literalAscii 0xB6
  | .litAB7 => .literalAscii 0xB7
  | .litAB8 => .literalAscii 0xB8
  | .litAB9 => .literalAscii 0xB9
  | .litABA => .literalAscii 0xBA
  | .litABB => .literalAscii 0xBB
  | .litABC => .literalAscii 0xBC
  | .litABD => .literalAscii 0xBD
  | .litABE => .literalAscii 0xBE
  | .litABF => .literalAscii 0xBF
  | .litAC0 => .literalAscii 0xC0
  | .litAC1 => .literalAscii 0xC1
  | .litAC2 => .literalAscii 0xC2
  | .litAC3 => .literalAscii 0xC3
  | .litAC4 => .literalAscii 0xC4
  | .litAC5 => .literalAscii 0xC5
  | .litAC6 => .literalAscii 0xC6
  | .litAC7 => .literalAscii 0xC7
  | .litAC8 => .literalAscii 0xC8
  | .litAC9 => .literalAscii 0xC9
  | .litACA => .literalAscii 0xCA
  | .litACB => .literalAscii 0xCB
  | .litACC => .literalAscii 0xCC
  | .litACD => .literalAscii 0xCD
  | .litACE => .literalAscii 0xCE
  | .litACF => .literalAscii 0xCF
  | .litAD0 => .literalAscii 0xD0
  | .litAD1 => .literalAscii 0xD1
  | .litAD2 => .literalAscii 0xD2
  | .litAD3 => .literalAscii 0xD3
  | .litAD4 => .literalAscii 0xD4
  | .litAD5 => .literalAscii 0xD5
  | .litAD6 => .literalAscii 0xD6
  | .litAD7 => .literalAscii 0xD7
  | .litAD8 => .literalAscii 0xD8
  | .litAD9 => .literalAscii 0xD9
  | .litADA => .literalAscii 0xDA
  | .litADB => .literalAscii 0xDB
  | .litADC => .literalAscii 0xDC
  | .litADD => .literalAscii 0xDD
  | .litADE => .literalAscii 0xDE
  | .litADF => .literalAscii 0xDF
  | .litAE0 => .literalAscii 0xE0
  | .litAE1 => .literalAscii 0xE1
  | .litAE2 => .literalAscii 0xE2
  | .litAE3 => .literalAscii 0xE3
  | .litAE4 => .literalAscii 0xE4
  | .litAE5 => .literalAscii 0xE5
  | .litAE6 => .literalAscii 0xE6
  | .litAE7 => .literalAscii 0xE7
  | .litAE8 => .literalAscii 0xE8
  | .litAE9 => .literalAscii 0xE9
  | .litAEA => .literalAscii 0xEA
  | .litAEB => .literalAscii 0xEB
  | .litAEC => .literalAscii 0xEC
  | .litAED => .literalAscii 0xED
  | .litAEE => .literalAscii 0xEE
  | .litAEF => .literalAscii 0xEF
  | .litAF0 => .literalAscii 0xF0
  | .litAF1 => .literalAscii 0xF1
  | .litAF2 => .literalAscii 0xF2
  | .litAF3 => .literalAscii 0xF3
  | .litAF4 => .literalAscii 0xF4
  | .litAF5 => .literalAscii 0xF5
  | .litAF6 => .literalAscii 0xF6
  | .litAF7 => .literalAscii 0xF7
  | .litAF8 => .literalAscii 0xF8
  | .litAF9 => .literalAscii 0xF9
  | .litAFA => .literalAscii 0xFA
  | .litAFB => .literalAscii 0xFB
  | .litAFC => .literalAscii 0xFC
  | .litAFD => .literalAscii 0xFD
  | .litAFE => .literalAscii 0xFE
  | .litAFF => .literalAscii 0xFF
  | .len0 => .length 0 0
  | .len1 e => .length 1 e.toNat
  | .len2 e => .length 2 e.toNat
  | .len3 e => .length 3 e.toNat
  | .len4 e => .length 4 e.toNat
  | .len5 e => .length 5 e.toNat
  | .len6 e => .length 6 e.toNat
  | .len7 e => .length 7 e.toNat
  | .len8 e => .length 8 e.toNat
  | .len9 e => .length 9 e.toNat
  | .len10 e => .length 10 e.toNat
  | .len11 e => .length 11 e.toNat
  | .len12 e => .length 12 e.toNat
  | .len13 e => .length 13 e.toNat
  | .len14 e => .length 14 e.toNat
  | .endToken => .endOfStream
  | .len15 e => .length 15 e.toNat
  | .dist0 low => .distance 0 low
  | .dist1 low => .distance 1 low
  | .dist2 low => .distance 2 low
  | .dist3 low => .distance 3 low
  | .dist4 low => .distance 4 low
  | .dist5 low => .distance 5 low
  | .dist6 low => .distance 6 low
  | .dist7 low => .distance 7 low
  | .dist8 low => .distance 8 low
  | .dist9 low => .distance 9 low
  | .dist10 low => .distance 10 low
  | .dist11 low => .distance 11 low
  | .dist12 low => .distance 12 low
  | .dist13 low => .distance 13 low
  | .dist14 low => .distance 14 low
  | .dist15 low => .distance 15 low
  | .dist16 low => .distance 16 low
  | .dist17 low => .distance 17 low
  | .dist18 low => .distance 18 low
  | .dist19 low => .distance 19 low
  | .dist20 low => .distance 20 low
  | .dist21 low => .distance 21 low
  | .dist22 low => .distance 22 low
  | .dist23 low => .distance 23 low
  | .dist24 low => .distance 24 low
  | .dist25 low => .distance 25 low
  | .dist26 low => .distance 26 low
  | .dist27 low => .distance 27 low
  | .dist28 low => .distance 28 low
  | .dist29 low => .distance 29 low
  | .dist30 low => .distance 30 low
  | .dist31 low => .distance 31 low
  | .dist32 low => .distance 32 low
  | .dist33 low => .distance 33 low
  | .dist34 low => .distance 34 low
  | .dist35 low => .distance 35 low
  | .dist36 low => .distance 36 low
  | .dist37 low => .distance 37 low
  | .dist38 low => .distance 38 low
  | .dist39 low => .distance 39 low
  | .dist40 low => .distance 40 low
  | .dist41 low => .distance 41 low
  | .dist42 low => .distance 42 low
  | .dist43 low => .distance 43 low
  | .dist44 low => .distance 44 low
  | .dist45 low => .distance 45 low
  | .dist46 low => .distance 46 low
  | .dist47 low => .distance 47 low
  | .dist48 low => .distance 48 low
  | .dist49 low => .distance 49 low
  | .dist50 low => .distance 50 low
  | .dist51 low => .distance 51 low
  | .dist52 low => .distance 52 low
  | .dist53 low => .distance 53 low
  | .dist54 low => .distance 54 low
  | .dist55 low => .distance 55 low
  | .dist56 low => .distance 56 low
  | .dist57 low => .distance 57 low
  | .dist58 low => .distance 58 low
  | .dist59 low => .distance 59 low
  | .dist60 low => .distance 60 low
  | .dist61 low => .distance 61 low
  | .dist62 low => .distance 62 low
  | .dist63 low => .distance 63 low
  | .xReset => .command ⟨0, []⟩
  | .xPush bytes => .command ⟨1, bytes⟩
  | .xFinish => .command ⟨2, []⟩
  | .iReset m d => .command ⟨4, [m, d]⟩
  | .iPush bytes => .command ⟨5, bytes⟩
  | .iFinish => .command ⟨6, []⟩

/-- The `LIT.A.xx` constructors, byte 0x00 first. -/
def asciiLiterals : List Instr :=
  [.litA00, .litA01, .litA02, .litA03, .litA04, .litA05, .litA06, .litA07, .litA08, .litA09, .litA0A, .litA0B, .litA0C, .litA0D, .litA0E, .litA0F,
   .litA10, .litA11, .litA12, .litA13, .litA14, .litA15, .litA16, .litA17, .litA18, .litA19, .litA1A, .litA1B, .litA1C, .litA1D, .litA1E, .litA1F,
   .litA20, .litA21, .litA22, .litA23, .litA24, .litA25, .litA26, .litA27, .litA28, .litA29, .litA2A, .litA2B, .litA2C, .litA2D, .litA2E, .litA2F,
   .litA30, .litA31, .litA32, .litA33, .litA34, .litA35, .litA36, .litA37, .litA38, .litA39, .litA3A, .litA3B, .litA3C, .litA3D, .litA3E, .litA3F,
   .litA40, .litA41, .litA42, .litA43, .litA44, .litA45, .litA46, .litA47, .litA48, .litA49, .litA4A, .litA4B, .litA4C, .litA4D, .litA4E, .litA4F,
   .litA50, .litA51, .litA52, .litA53, .litA54, .litA55, .litA56, .litA57, .litA58, .litA59, .litA5A, .litA5B, .litA5C, .litA5D, .litA5E, .litA5F,
   .litA60, .litA61, .litA62, .litA63, .litA64, .litA65, .litA66, .litA67, .litA68, .litA69, .litA6A, .litA6B, .litA6C, .litA6D, .litA6E, .litA6F,
   .litA70, .litA71, .litA72, .litA73, .litA74, .litA75, .litA76, .litA77, .litA78, .litA79, .litA7A, .litA7B, .litA7C, .litA7D, .litA7E, .litA7F,
   .litA80, .litA81, .litA82, .litA83, .litA84, .litA85, .litA86, .litA87, .litA88, .litA89, .litA8A, .litA8B, .litA8C, .litA8D, .litA8E, .litA8F,
   .litA90, .litA91, .litA92, .litA93, .litA94, .litA95, .litA96, .litA97, .litA98, .litA99, .litA9A, .litA9B, .litA9C, .litA9D, .litA9E, .litA9F,
   .litAA0, .litAA1, .litAA2, .litAA3, .litAA4, .litAA5, .litAA6, .litAA7, .litAA8, .litAA9, .litAAA, .litAAB, .litAAC, .litAAD, .litAAE, .litAAF,
   .litAB0, .litAB1, .litAB2, .litAB3, .litAB4, .litAB5, .litAB6, .litAB7, .litAB8, .litAB9, .litABA, .litABB, .litABC, .litABD, .litABE, .litABF,
   .litAC0, .litAC1, .litAC2, .litAC3, .litAC4, .litAC5, .litAC6, .litAC7, .litAC8, .litAC9, .litACA, .litACB, .litACC, .litACD, .litACE, .litACF,
   .litAD0, .litAD1, .litAD2, .litAD3, .litAD4, .litAD5, .litAD6, .litAD7, .litAD8, .litAD9, .litADA, .litADB, .litADC, .litADD, .litADE, .litADF,
   .litAE0, .litAE1, .litAE2, .litAE3, .litAE4, .litAE5, .litAE6, .litAE7, .litAE8, .litAE9, .litAEA, .litAEB, .litAEC, .litAED, .litAEE, .litAEF,
   .litAF0, .litAF1, .litAF2, .litAF3, .litAF4, .litAF5, .litAF6, .litAF7, .litAF8, .litAF9, .litAFA, .litAFB, .litAFC, .litAFD, .litAFE, .litAFF]

/-- The Ascii literal of a byte. -/
def asciiLiteral (b : Byte) : Instr := asciiLiterals.getD b.toNat .litA00

/-- The `LEN.c` constructors applied to the extra length bits, code 0 first. -/
def lengthParts : List (BitVec 8 → Instr) :=
  [fun _ => .len0, (.len1 ·), (.len2 ·), (.len3 ·), (.len4 ·), (.len5 ·), (.len6 ·), (.len7 ·),
   .len8, .len9, .len10, .len11, .len12, .len13, .len14, .len15]

/-- The length part of code `c` with extra bits `e` (R107). -/
def lengthPart (c e : Nat) : Instr := lengthParts.getD c (fun _ => .len0) (BitVec.ofNat 8 e)

/-- The `DIST.p` constructors, code 0 first. -/
def distanceParts : List (BitVec 6 → Instr) :=
  [.dist0, .dist1, .dist2, .dist3, .dist4, .dist5, .dist6, .dist7,
   .dist8, .dist9, .dist10, .dist11, .dist12, .dist13, .dist14, .dist15,
   .dist16, .dist17, .dist18, .dist19, .dist20, .dist21, .dist22, .dist23,
   .dist24, .dist25, .dist26, .dist27, .dist28, .dist29, .dist30, .dist31,
   .dist32, .dist33, .dist34, .dist35, .dist36, .dist37, .dist38, .dist39,
   .dist40, .dist41, .dist42, .dist43, .dist44, .dist45, .dist46, .dist47,
   .dist48, .dist49, .dist50, .dist51, .dist52, .dist53, .dist54, .dist55,
   .dist56, .dist57, .dist58, .dist59, .dist60, .dist61, .dist62, .dist63]

/-- The distance part of position code `p` with low bits `low` (R108). -/
def distancePart (p : Nat) (low : BitVec 6) : Instr := (distanceParts.getD p .dist0) low

end Sys2Proof
end

