-- ==== Sys2Proof/WellFormed.lean ====
section
/-! DEFINITION. Which instruction may stand in which code space: the operand ranges of 30_encoding.md rules R105 to
R109 and R117 that the types of Syntax.lean do not already carry. -/

namespace Sys2Proof

/-- An instruction is well formed in a code space when that space's encoding has a pattern for it. A Binary literal
needs Binary mode (R105), an Ascii literal Ascii mode (R106); a length part carries as many extra bits as its code has
and is not the END pattern (R107, R109: `c = 15`, `e = 0xFF` is END); a distance part carries as many low bits as its
space has, and the mask of the space is the one its `dictBits` gives (R108, R24). The header's field values are not
restricted: an illegal one is a header error that execution raises (R102), not an ill-formed instruction. -/
def wellFormed (k : CodeTables) (sp : Space) (i : Instr) : Bool :=
  match sp, i.shape with
  | .host, .command _ => true
  | .header, .header _ _ _ => true
  | .token .binary, .literalBinary _ => true
  | .token .ascii, .literalAscii _ => true
  | .token _, .length c e => decide (e < 2 ^ k.exLenBits.getD c 0) && !(c == 15 && e == 0xFF)
  | .token _, .endOfStream => true
  | .distance n d mask, .distance _ low => decide (mask = d.distMask) && decide (low.toNat < 2 ^ lowWidth n d)
  | _, _ => false

end Sys2Proof
end

