-- ==== Sys2Proof/Decode.lean ====
section
/-! DEFINITION. The bit reader and the token decoder (42_explode_decode.md), the host command decoder (30_encoding.md rule R117), and after them the encoder, written from
the same encoding tables (30_encoding.md rules R101 and R105 to R109). Decoding is total; what it rejects, it rejects
by name. -/

namespace Sys2Proof

/-! ### The bit reader -/

/-- The bit cursor and what lies ahead of it (R29 to R31): the two registers and the contents of `inBuf`. -/
structure BitReader where
  bitBuffer : BitVec 16
  extraBits : BitVec 4
  input : List Byte
deriving DecidableEq, Repr

/-- `peek(n)`, the next `n` stream bits as a number, first bit least significant (R182). -/
def BitReader.peek (r : BitReader) (n : Nat) : Nat := lowbits n r.bitBuffer.toNat

/-- `wasteBits(n)` (R183); `none` is NeedMoreInput, with nothing changed. -/
def BitReader.wasteBits (r : BitReader) (n : Nat) : Option BitReader :=
  if n ≤ r.extraBits.toNat then
    some { r with bitBuffer := r.bitBuffer >>> n, extraBits := BitVec.ofNat 4 (r.extraBits.toNat - n) }
  else
    match r.input with
    | [] => none
    | byte :: rest =>
      some
        { bitBuffer :=
            ((r.bitBuffer >>> r.extraBits.toNat) ||| (byte.setWidth 16 <<< 8)) >>> (n - r.extraBits.toNat)
          extraBits := BitVec.ofNat 4 (r.extraBits.toNat + 8 - n)
          input := rest }

/-! ### The decoders -/

/-- The answer of a decoder: an instruction and the reader past it; NeedMoreInput, with the reader as the failed
attempt left it (R180); or an entry of a table that its construction did not fill, to which the spec gives no value
(R36, R191, 93_implementation_defined.md U3). -/
inductive Decoded where
  | instr (i : Instr) (rest : BitReader)
  | needMoreInput (rest : BitReader)
  | unfilledEntry
deriving DecidableEq, Repr

/-- `wasteBits(n)` and then `k`: "if `f` signals NeedMoreInput, the enclosing operation stops and signals NeedMoreInput
too" (R180). -/
def wasteThen (r : BitReader) (n : Nat) (k : BitReader → Decoded) : Decoded :=
  match r.wasteBits n with
  | none => .needMoreInput r
  | some r' => k r'

/-- A table read: entry `x`, if the table has it filled. -/
def lookupThen {α : Type} (entry : Option α) (k : α → Decoded) : Decoded :=
  match entry with
  | none => .unfilledEntry
  | some v => k v

/-- The instruction of a length token `(c, e)`: END is `c = 15`, `e = 0xFF` (R109, R185). -/
def lengthInstr (c e : Nat) : Instr := if c = 15 ∧ e = 0xFF then .endToken else lengthPart c e

/-- The length branch of `decodeNextLiteral`, after the flag bit (R185), with the END special case: when the extra bits
cannot be wasted and `c + e = 0x10E`, the token is END all the same and nothing more is consumed (R186). -/
def decodeLength (k : CodeTables) (t : DecodeTables) (r : BitReader) : Decoded :=
  lookupThen t.lengthCodes[r.peek 8]? fun c =>
    wasteThen r (k.lenBits.getD c 0) fun r =>
      let n := k.exLenBits.getD c 0
      if n = 0 then .instr (lengthInstr c 0) r
      else
        let e := r.peek n
        match r.wasteBits n with
        | some r' => .instr (lengthInstr c e) r'
        | none => if c + e = 0x10E then .instr .endToken r else .needMoreInput r

/-- A Binary literal, after the flag bit (R187). -/
def decodeLiteralBinary (r : BitReader) : Decoded :=
  let b := r.peek 8
  wasteThen r 8 fun r => .instr (.litB (BitVec.ofNat 8 b)) r

/-- The final waste of an Ascii literal (R191). -/
def finishLiteralAscii (a : AsciiTables) (r : BitReader) (v : Byte) : Decoded :=
  wasteThen r (a.chBitsAsc.getD v.toNat 0) fun r => .instr (asciiLiteral v) r

/-- An Ascii literal, after the flag bit: the first level (R188), the sentinel path (R189) and the zero path (R190). An
entry past the end of a table is not filled either. -/
def decodeLiteralAscii (a : AsciiTables) (r : BitReader) : Decoded :=
  let x := r.peek 8
  if x = 0 then
    wasteThen r 8 fun r => lookupThen (a.table2EB4.getD (r.peek 8) none) (finishLiteralAscii a r)
  else
    lookupThen (a.table2C34.getD x none) fun v =>
      if v = 0xFF then
        if r.peek 6 ≠ 0 then
          wasteThen r 4 fun r => lookupThen (a.table2D34.getD (r.peek 8) none) (finishLiteralAscii a r)
        else
          wasteThen r 6 fun r => lookupThen (a.table2E34.getD (r.peek 7) none) (finishLiteralAscii a r)
      else finishLiteralAscii a r v

/-- `decodeNextLiteral()` (R185 to R191), from the flag bit on. -/
def decodeToken (k : CodeTables) (t : DecodeTables) (mode : CompressionMode) (r : BitReader) : Decoded :=
  let flag := r.peek 1
  wasteThen r 1 fun r =>
    if flag = 1 then decodeLength k t r
    else
      match mode with
      | .binary => decodeLiteralBinary r
      | .ascii => lookupThen t.ascii fun a => decodeLiteralAscii a r

/-- The reading half of `decodeDistance(repeatLength)` (R192): the position code and the low bits, which the execution
of the distance part puts together. -/
def decodeDistancePart (k : CodeTables) (t : DecodeTables) (repeatLength : Nat) (d : DictionarySize)
    (distMask : BitVec 6) (r : BitReader) : Decoded :=
  lookupThen t.distPosCodes[r.peek 8]? fun p =>
    wasteThen r (k.distBits.getD p 0) fun r =>
      if repeatLength = 2 then
        let low := r.peek 2
        wasteThen r 2 fun r => .instr (distancePart p (BitVec.ofNat 6 low)) r
      else
        let low := r.bitBuffer &&& distMask.setWidth 16
        wasteThen r d.bits fun r => .instr (distancePart p (low.setWidth 6)) r

/-- The header (R101): its three bytes, read when at least 4 bytes are buffered (R204). They are not consumed here: on
a header error `inBuf` still holds them (R205). -/
def decodeHeader (r : BitReader) : Decoded :=
  match r.input with
  | m :: d :: seed :: _ :: _ => .instr (.header m d seed) r
  | _ => .needMoreInput r

/-- The instruction at the reader in a code space of the stream. The host's space is not read from a stream. -/
def decode (k : CodeTables) (t : DecodeTables) (sp : Space) (r : BitReader) : Decoded :=
  match sp with
  | .header => decodeHeader r
  | .token mode => decodeToken k t mode r
  | .distance n d mask => decodeDistancePart k t n d mask r
  | .host => .unfilledEntry

/-- Why a host transaction is rejected. -/
inductive CommandError where
  /-- `cmd = 3`: 0b011 and 0b111 are reserved (R117) -/
  | reserved
  /-- the operand is not of the shape R117's operand column gives the command (log entry 9) -/
  | malformedOperand
deriving DecidableEq, Repr

/-- The host command words (R117). -/
def decodeCommand (c : HostCommand) : Except CommandError Instr :=
  match c.word.toNat with
  | 0 => if c.operand = [] then .ok .xReset else .error .malformedOperand
  | 1 => .ok (.xPush c.operand)
  | 2 => if c.operand = [] then .ok .xFinish else .error .malformedOperand
  | 4 =>
    match c.operand with
    | [m, d] => .ok (.iReset m d)
    | _ => .error .malformedOperand
  | 5 => .ok (.iPush c.operand)
  | 6 => if c.operand = [] then .ok .iFinish else .error .malformedOperand
  | _ => .error .reserved

/-! ### The encoder -/

/-- A bit pattern: its width and its value, bit 0 first in stream order (R123). -/
structure Code where
  width : Nat
  bits : Nat
deriving DecidableEq, Repr

/-- Bytes as one number, the first byte lowest: bit `i` of the number is bit `i mod 8` of byte `i / 8` (R74). -/
def bytesToNat : List Byte → Nat
  | [] => 0
  | b :: rest => b.toNat + 2 ^ 8 * bytesToNat rest

/-- The flag bit, the length code and the extra bits (R107). -/
def lengthCode (k : CodeTables) (c e : Nat) : Code :=
  let w := k.lenBits.getD c 0
  ⟨1 + w + k.exLenBits.getD c 0, 1 + k.lenCode.getD c 0 <<< 1 + e <<< (1 + w)⟩

/-- The encoding of an instruction in a code space: HEADER (R101), `LITB` (R105), `LITA` (R106), `LEN` (R107), END as the
`LEN` of `c = 15`, `e = 0xFF` (R109), `DIST` (R108). A host command: R117 gives its 3-bit word and its operand apart and
lays neither out as bits; one pattern with the word in bits 2:0 and the operand bytes from bit 3 up, the first lowest, is
the model's (log entry 21, DESIGN CHOICE). No step reads it. -/
def encode (k : CodeTables) (sp : Space) (i : Instr) : Code :=
  match i.shape with
  | .header m d seed => ⟨24, bytesToNat [m, d, seed]⟩
  | .literalBinary b => ⟨9, b.toNat <<< 1⟩
  | .literalAscii b => ⟨1 + k.chBitsAsc.getD b.toNat 0, k.chCodeAsc.getD b.toNat 0 <<< 1⟩
  | .length c e => lengthCode k c e
  | .endOfStream => lengthCode k 15 0xFF
  | .distance p low =>
    let w := k.distBits.getD p 0
    let n := match sp with
      | .distance n d _ => lowWidth n d
      | _ => 6
    ⟨w + n, k.distCode.getD p 0 + low.toNat <<< w⟩
  | .command c => ⟨3 + 8 * c.operand.length, c.word.toNat + bytesToNat c.operand <<< 3⟩

/-! ### The table's numbering -/

/-- Byte `k` of a table word. -/
def tableByte (w k : Nat) : Byte := BitVec.ofNat 8 (w >>> (8 * k))

/-- A table word as the hardware stores it: the first byte in `bitBuffer`, where the cursor stands (R103, R205), the
later ones in `inBuf`, and zeros up to one byte past the longest instruction (R193). -/
def tableReader (w : Nat) : BitReader :=
  { bitBuffer := (tableByte w 0).setWidth 16, extraBits := 0, input := [tableByte w 1, tableByte w 2, tableByte w 3, 0] }

/-- A table word as a header: its three bytes and the fourth that R204 waits for. -/
def headerReader (w : Nat) : BitReader :=
  { bitBuffer := 0, extraBits := 0, input := [tableByte w 0, tableByte w 1, tableByte w 2, 0] }

/-- A table word as a host transaction; every operand bit is 0, so a PUSH pushes nothing. -/
def tableCommand (w : Nat) : HostCommand :=
  { word := BitVec.ofNat 3 w, operand := if w = 4 then [0, 0] else [] }

/-- The decode tables a table word is read with: all built, from the default tables that the opcode table's rows are
written with (R123). -/
def tableTables : DecodeTables := (DecodeTables.built CodeTables.standard).withAscii CodeTables.standard

/-- The width of the instruction a space reads from `w`, if `w` is its pattern to the bit. -/
def exactWidth (sp : Space) (w : Nat) : Option Nat :=
  match decode CodeTables.standard tableTables sp (tableReader w) with
  | .instr i _ => if (encode CodeTables.standard sp i).bits = w then some (encode CodeTables.standard sp i).width else none
  | _ => none

/-- The distance space a bare DIST row is read in: a repeat length other than 2, the smallest dictionary. -/
def tableDistance : Space := .distance 3 .small DictionarySize.small.distMask

/-- The code space of a table word. The rows of the opcode table live in five code spaces (R113: the decoder knows from
its state which one it reads), and one number is a pattern of several of them: 0x01 is `X.PUSH`, `LEN.15` and `DIST.6`.
The number alone does not say which, so this fixes an order (log entry 8): 24 bits are a header; 8 bits that are a
command word are that command; then an odd number is a length part or END; an even one that is exactly an Ascii
literal's pattern of as many whole bytes is that literal; 8 bits that are exactly a distance part's pattern are that
part; anything else is a Binary token. -/
def tableSpace (nbits w : Nat) : Space :=
  if 24 ≤ nbits then .header
  else if nbits ≤ 8 ∧ w < 7 ∧ w ≠ 3 then .host
  else if w % 2 = 1 then .token .binary
  else if (exactWidth (.token .ascii) w).any (fun n => decide (n ≤ 8) == decide (nbits ≤ 8)) then .token .ascii
  else if nbits ≤ 8 ∧ (exactWidth tableDistance w).isSome then tableDistance
  else .token .binary

/-- The instruction the decoder reads from a table word (bit 0 = the first bit in stream order, R123). -/
def decodeTableWord (nbits w : Nat) : Option Instr :=
  match tableSpace nbits w with
  | .host => (decodeCommand (tableCommand w)).toOption
  | sp =>
    match decode CodeTables.standard tableTables sp (if sp = .header then headerReader w else tableReader w) with
    | .instr i _ => some i
    | _ => none

end Sys2Proof
end

