-- ==== Sys2Proof/Machine/State.lean ====
section
/-! DEFINITION. The state of the block as plain data (10_state.md), the reasons a step can stop, and the state after
reset. INVENTORY.md lists every field with the rule that names it. -/

namespace Sys2Proof.Machine

/-- Why the machine stops with a fault. The errors of 60_exceptions.md are not among these: the unit takes them, enters
its Error state and answers (R307). -/
inductive Fault where
  /-- Raised by a read of a heap byte, inside a buffer's window, that no operation has written, and by a read of several
  bytes from a window that holds such a byte: R26 gives it no value and says no rule reads it. Safe: the spec leaves the value open, and no state the machine reaches has such a byte. -/
  | unwrittenByte
deriving DecidableEq, Repr

/-- Why a step is refused: "it delimits what the spec defines" (R300). -/
inductive Refusal where
  /-- Raised by exec's arm of an instruction that has no meaning yet (there is none). Safe. -/
  | notModelled (mnemonic : String)
  /-- Raised by a command other than RESET to a unit that was never reset: "(refuse)" (R49, R200, R230). Safe. -/
  | neverReset
  /-- Raised by RESET where the Static Code Tables violate a constraint: "tables that violate a constraint: `refuse`" (R119,
  93_implementation_defined.md U10; log entry 5). Safe. -/
  | illegalTables
  /-- Raised by the fetch of a command word with `cmd = 3`: "reserved ... refuse" (R117). Safe. -/
  | reservedCommand
  /-- Raised by the fetch of a command whose operand has not the shape R117 gives it (log entry 9). Safe. -/
  | malformedOperand
  /-- Raised by a PUSH or FINISH to a unit that has a PUSH in progress: a host "must not issue a command to a unit while
  another command to the same unit is in progress" (R350, log entry 10). Safe. -/
  | commandInProgress
  /-- Raised by a token executed outside Decoding, where the spec executes none (R200, R206; log entry 10). Safe. -/
  | outsideDecoding
  /-- Raised by a header executed where the unit awaits none or has not 4 bytes of it: R205's precondition (log entry
  10). Safe. -/
  | noHeaderAwaited
  /-- Raised by a distance part executed with no length part before it: it is no token of its own (R104, R209; log entry
  10). Safe. -/
  | noLengthPart
  /-- Raised by a buffer operation outside its precondition: "A model refuses it" (R156). Safe. -/
  | bufferPrecondition
  /-- Raised by the fetch of a token, and by the emission of one, whose table entry construction did not fill: no value
  (R36, 93_implementation_defined.md U3). Safe. -/
  | unfilledEntry
deriving DecidableEq, Repr

/-- A heap: the bytes that some operation has written, as (index, byte) pairs with the indices strictly rising. An
index that is not listed holds no value (R26, R141; log entry 7). -/
abbrev Memory := List Host.Cell

/-- A Growable Byte Buffer: `(heap, start, end, saved)` (R25). -/
structure Buffer where
  heap : Memory
  /-- `|heap|`, which counts the bytes nothing has written too -/
  capacity : Nat
  start : Nat
  /-- the spec's `end` -/
  stop : Nat
  /-- the single-slot backup of `(start, end)` -/
  saved : Option (Nat × Nat)
deriving DecidableEq, Repr

/-- The codes of R301. -/
inductive ErrorCode where
  | none
  | invalidDictionarySize
  | invalidCompressionType
  | invalidData
  | aborted
  | distanceBeyondHistory
deriving DecidableEq, Repr

/-- `status` of R301. -/
inductive Status where
  | ready
  | done
  | error
deriving DecidableEq, Repr

/-- The record every command returns (R301). -/
structure Response where
  status : Status
  err : ErrorCode
  out : List Byte
deriving DecidableEq, Repr

/-- `xstate` (R28, R32). -/
inductive XState where
  | awaitingHeader
  | decoding
  | suspended
  | complete
  | error
deriving DecidableEq, Repr

/-- `istate` (R38, R42). -/
inductive IState where
  | setup
  | accumulating
  | flushing
  | finalized
  | error
deriving DecidableEq, Repr

/-- The EXPLODE unit (R28, R27, R33 to R35). -/
structure XUnit where
  /-- the unit has been reset at least once (R49: before that it has no state) -/
  live : Bool
  xstate : XState
  mode : CompressionMode
  dictBits : DictionarySize
  distMask : BitVec 6
  /-- the spec's `W`, which this unit never reads (R24, U1) -/
  window : BitVec 13
  bitBuffer : BitVec 16
  extraBits : BitVec 4
  headerParsed : Bool
  endOfStream : Bool
  needMoreInput : Bool
  /-- the engine half of the snapshot, `(bitBuffer, extraBits)` (R33) -/
  snap : Option (BitVec 16 × BitVec 4)
  err : ErrorCode
  inBuf : Buffer
  outBuf : Buffer
  tables : DecodeTables
  /-- the `repeatLength` of a COPY whose length part has been decoded and whose distance part has not: R206's local
  value between the two halves of one token (log entry 13) -/
  repeatLength : Option Nat
deriving DecidableEq, Repr

/-- The IMPLODE unit (R38, R27, R43). -/
structure IUnit where
  /-- the unit has been reset at least once (R49) -/
  live : Bool
  istate : IState
  mode : CompressionMode
  dictBits : DictionarySize
  distMask : BitVec 6
  /-- the spec's `W` -/
  window : BitVec 13
  outBits : BitVec 3
  cursor : Nat
  handledFirstTwoBytes : Bool
  streamEnded : Bool
  err : ErrorCode
  inBuf : Buffer
  outBuf : Buffer
  /-- the encode tables, empty until Setup builds them (R43) -/
  literalBits : List Nat
  literalCodes : List Nat
deriving DecidableEq, Repr

/-- The block: its parameters (R9), one unit of each kind (R20), the commands the host has issued and the block has not
taken yet, oldest first, and the responses it has given, oldest first (R44, R202). -/
structure State where
  cfg : Config
  host : List HostCommand
  x : XUnit
  i : IUnit
  responses : List Response
deriving DecidableEq, Repr

/-- `new()`: an empty buffer (R141). -/
def Buffer.new : Buffer := { heap := [], capacity := 0, start := 0, stop := 0, saved := none }

/-- The EXPLODE unit right after `X.RESET` (R47). `mode`, `dictBits`, `distMask`, `W`, `bitBuffer` and `extraBits`
are unspecified there (U1: "any value"); the values are log entry 4's. -/
def XUnit.reset (k : CodeTables) : XUnit where
  live := true
  xstate := .awaitingHeader
  mode := .binary
  dictBits := .small
  distMask := DictionarySize.small.distMask
  window := DictionarySize.small.window
  bitBuffer := 0
  extraBits := 0
  headerParsed := false
  endOfStream := false
  needMoreInput := false
  snap := none
  err := .none
  inBuf := Buffer.new
  outBuf := Buffer.new
  tables := DecodeTables.built k
  repeatLength := none

/-- An IMPLODE unit that holds no stream: every register that `I.RESET` sets from its operands at log entry 4's value,
the others at R38's reset value, no tables. -/
def IUnit.blank : IUnit where
  live := false
  istate := .setup
  mode := .binary
  dictBits := .small
  distMask := DictionarySize.small.distMask
  window := DictionarySize.small.window
  outBits := 0
  cursor := 0
  handledFirstTwoBytes := false
  streamEnded := false
  err := .none
  inBuf := Buffer.new
  outBuf := Buffer.new
  literalBits := []
  literalCodes := []

/-- The block right after reset, built with the default parameters of R9. The reset of the EXPLODE unit takes no operand: it is in R47's state. The reset of the
IMPLODE unit takes the mode and the dictionary size from the host (R48), which has given none: it is a unit that was
never reset (R49; log entry 3). -/
def State.reset : State where
  cfg := Config.standard
  host := []
  x := XUnit.reset CodeTables.standard
  i := IUnit.blank
  responses := []

/-- The block right after reset, built with other parameters (R9, R46). With tables that violate a constraint no unit can
be reset (U10). -/
def State.resetWith (cfg : Config) : State :=
  { State.reset with cfg := cfg, x := { XUnit.reset cfg.tables with live := cfg.tables.admitted } }

end Sys2Proof.Machine
end

