-- ==== Sys2Proof/Machine/Flags.lean ====
section
/-! DEFINITION. The numeric codes and the flags: the response fields of 60_exceptions.md rule R301, the status a unit
answers with (R202, R301), and the flags that are redundant with `xstate` (R32). -/

namespace Sys2Proof.Machine

/-- `err`, 3 bits (R301). -/
def ErrorCode.code : ErrorCode → BitVec 3
  | .none => 0
  | .invalidDictionarySize => 1
  | .invalidCompressionType => 2
  | .invalidData => 3
  | .aborted => 4
  | .distanceBeyondHistory => 5

/-- `status`, 2 bits (R301); 3 is reserved and never returned. -/
def Status.code : Status → BitVec 2
  | .ready => 0
  | .done => 1
  | .error => 2

/-- The status of an EXPLODE unit that ends a command in a state (R202, R301). -/
def XState.status : XState → Status
  | .complete => .done
  | .error => .error
  | .awaitingHeader => .ready
  | .decoding => .ready
  | .suspended => .ready

/-- The status of an IMPLODE unit that ends a command in a state (R301). -/
def IState.status : IState → Status
  | .finalized => .done
  | .error => .error
  | .setup => .ready
  | .accumulating => .ready
  | .flushing => .ready

/-- `endOfStream` and `needMoreInput` say no more than `xstate` does (R32). -/
def XUnit.flagsAgree (x : XUnit) : Bool :=
  x.endOfStream == (x.xstate == .complete) && x.needMoreInput == (x.xstate == .suspended)

end Sys2Proof.Machine
end

