-- ==== Sys2Proof/Machine/Operands.lean ====
section
/-! DEFINITION. Operand assembly: token numbers and lengths (30_encoding.md rules R107 to R112), stored distances, the
bytes a COPY appends (43_explode_engine.md rule R211), the encode tables (44_implode_match.md rules R232 to R234), the
repetition search and the flushability test (R238, R239), and the split of a distance (45_implode_emit.md rule R255). -/

namespace Sys2Proof.Machine

/-- `token = LenBase[c] + e + 0x100` (R107, R112). -/
def lengthToken (k : CodeTables) (c e : Nat) : Nat := k.lenBase.getD c 0 + e + 0x100

/-- `repeatLength = token - 0xFE` (R110). -/
def repeatLengthOf (token : Nat) : Nat := token - 0xFE

/-- `D = (p << k) | l`, `k = 2` or `dictBits` (R108, R112). -/
def storedDistance (repeatLength : Nat) (d : DictionarySize) (p low : Nat) : Nat :=
  (p <<< lowWidth repeatLength d) ||| low

/-- The true distance, `d = D + 1` (R108). -/
def trueDistance (repeatLength : Nat) (d : DictionarySize) (p low : Nat) : Nat :=
  storedDistance repeatLength d p low + 1

/-- The loop of R211 over the contents of `outBuf`: each round reads the byte `d` before the current end and appends it,
so a byte this copy wrote is read by this copy (R84). `none` when there is no such byte. -/
def copyLoop (out : List Byte) (d : Nat) : Nat → Option (List Byte)
  | 0 => some out
  | n + 1 =>
    if d = 0 ∨ out.length < d then none
    else
      match out[out.length - d]? with
      | some b => copyLoop (out ++ [b]) d n
      | none => none

/-- The bytes a COPY appends to the contents `history` (R211). -/
def copiedBytes (history : List Byte) (repeatLength d : Nat) : Option (List Byte) :=
  (copyLoop history d repeatLength).map fun out => out.drop history.length

/-! ### Encode tables -/

/-- Binary literal codes, "counting by 2 modulo 65536" (R233): `n` of them, from `code` on. -/
def binaryCodes : Nat → Nat → List Nat
  | 0, _ => []
  | n + 1, code => code :: binaryCodes n (lowbits 16 code + 2)

/-- `literalBits` of the length families and END, in order of `c` and then of `e` (R234). -/
def lengthFamilyBits (k : CodeTables) : List Nat :=
  (List.range 16).flatMap fun c =>
    List.replicate (2 ^ k.exLenBits.getD c 0) (1 + k.lenBits.getD c 0 + k.exLenBits.getD c 0)

/-- `literalCodes` of the length families and END (R234). -/
def lengthFamilyCodes (k : CodeTables) : List Nat :=
  (List.range 16).flatMap fun c =>
    (List.range (2 ^ k.exLenBits.getD c 0)).map fun e =>
      (e <<< (k.lenBits.getD c 0 + 1)) ||| (k.lenCode.getD c 0 <<< 1) ||| 1

/-- `literalBits[0..0x306)` (R232 to R234). -/
def literalBitsTable (k : CodeTables) (mode : CompressionMode) : List Nat :=
  (match mode with
    | .binary => List.replicate 256 9
    | .ascii => k.chBitsAsc.map (· + 1)) ++ lengthFamilyBits k

/-- `literalCodes[0..0x306)` (R232 to R234). -/
def literalCodesTable (k : CodeTables) (mode : CompressionMode) : List Nat :=
  (match mode with
    | .binary => binaryCodes 256 0
    | .ascii => k.chCodeAsc.map (· * 2)) ++ lengthFamilyCodes k

/-! ### The repetition search -/

/-- The least `m` from `at` on whose two bytes are the needle, among the first `count` positions of `bytes` (R238). -/
def findNeedle (n0 n1 : Byte) : Nat → Nat → List Byte → Option Nat
  | m, count + 1, b0 :: b1 :: rest =>
    if b0 = n0 ∧ b1 = n1 then some m else findNeedle n0 n1 (m + 1) count (b1 :: rest)
  | _, _, _ => none

/-- How many bytes at the front of two sequences agree, at most `cap` (R238's extension loop). -/
def matchLength : Nat → List Byte → List Byte → Nat
  | cap + 1, a :: as, b :: bs => if a = b then matchLength cap as bs + 1 else 0
  | _, _, _ => 0

/-- `findRepetitions()` over the contents of `inBuf` (R238): `(size, D)`, or `(0, 0)`. The needle is the two bytes at
`cursor`; it must lie wholly inside the history (`m ≤ cursor - 2`); the extension may run past `cursor` and stops at
`min(0x204, avail)`. -/
def findRepetitions (bytes : List Byte) (cursor : Nat) : Nat × Nat :=
  match bytes.drop cursor with
  | n0 :: n1 :: rest =>
    if cursor < 2 then (0, 0)
    else
      match findNeedle n0 n1 0 (cursor - 1) bytes with
      | none => (0, 0)
      | some m =>
        (matchLength (min longestAllowedRepetition (rest.length + 2)) (bytes.drop m) (n0 :: n1 :: rest),
          cursor - m - 1)
  | _ => (0, 0)

/-- `flushable(size, D)`, on the stored distance (R239). -/
def flushable (size d : Nat) : Bool := !(size == 0 || (size == 2 && decide (0x100 ≤ d)))

/-- `p`, the distance-position code of a stored distance (R255). -/
def positionCode (size : Nat) (dict : DictionarySize) (d : Nat) : Nat := d >>> lowWidth size dict

/-- The low distance bits: `D & 3` when the size is 2, `D & distMask` otherwise (R255). -/
def lowDistanceBits (size : Nat) (distMask : BitVec 6) (d : Nat) : Nat :=
  if size = 2 then d &&& 3 else d &&& distMask.toNat

end Sys2Proof.Machine
end

