-- ==== Sys2Proof/Machine/Ops.lean ====
section
/-! DEFINITION. The named operations: over a heap, over a Growable Byte Buffer (40_buffer_ops.md), over the EXPLODE unit
(backup, suspend, drain, the COPY, taking an error: 43_explode_engine.md, 46_streaming_adapter.md, 60_exceptions.md)
and over the IMPLODE unit (bit packer, emission, scan, eviction, drain: 44_implode_match.md, 45_implode_emit.md). -/

namespace Sys2Proof.Machine

/-- The answer of an operation that may stop the machine. -/
abbrev Answer (α : Type) := Host.Outcome α Fault Refusal

/-- First `a`, then `k` on its result; a stop of `a` stops both. -/
def andThen {α β : Type} (a : Answer α) (k : α → Answer β) : Answer β :=
  match a with
  | .next v => k v
  | .fault f => .fault f
  | .refused r => .refused r

/-! ### The heap -/

/-- The byte at an index, if some operation has written it. -/
def Memory.read (m : Memory) (a : Nat) : Option Byte := (m.find? fun c => c.1 == a).map fun c => c.2

/-- The cells of a byte sequence laid down from index `a` on. -/
def Memory.cellsAt (a : Nat) : List Byte → Memory
  | [] => []
  | b :: rest => (a, b) :: cellsAt (a + 1) rest

/-- `heap[a .. a+|s|) <- s`; every other byte stays (R142, R146, R151). -/
def Memory.write (m : Memory) (a : Nat) (s : List Byte) : Memory :=
  (m.filter fun c => decide (c.1 < a)) ++ Memory.cellsAt a s ++ (m.filter fun c => decide (a + s.length ≤ c.1))

/-- The written bytes of `heap[a..b)`, in order. -/
def Memory.slice (m : Memory) (a b : Nat) : List Byte :=
  (m.filter fun c => decide (a ≤ c.1) && decide (c.1 < b)).map fun c => c.2

/-- Every index of the list is above `a` and the indices strictly rise. -/
def Memory.risingFrom : Nat → Memory → Bool
  | _, [] => true
  | a, c :: rest => decide (a ≤ c.1) && risingFrom (c.1 + 1) rest

/-- The canonical form: indices strictly rising. An unlisted index holds no value, so no entry repeats it. -/
def Memory.wf (m : Memory) : Bool := Memory.risingFrom 0 m

/-! ### The Growable Byte Buffer -/

namespace Buffer

/-- `new(n)`: pre-sized, the `n` bytes without a value (R141). -/
def newSized (n : Nat) : Buffer := { Buffer.new with capacity := n }

/-- `size()` (R143). -/
def size (b : Buffer) : Nat := b.stop - b.start

/-- `isEmpty()` (R143). -/
def isEmpty (b : Buffer) : Bool := b.size == 0

/-- `heapSize()`, the capacity (R154). -/
def heapSize (b : Buffer) : Nat := b.capacity

/-- The contents, `heap[start..end)` (R25): the bytes there that have a value, in order. A window holds a byte without one
only if a host restores a stale pair (R351) that runs past the capacity; a reallocating `append` and a `flushStart` then
move the others together, which is the model's choice (log entry 7). No unit's buffer is ever so. -/
def contents (b : Buffer) : List Byte := b.heap.slice b.start b.stop

/-- R25's invariant `0 ≤ start ≤ end ≤ capacity`, the heap in canonical form inside the capacity, and a value in every
byte of the window (R26). -/
def wf (b : Buffer) : Bool :=
  decide (b.start ≤ b.stop) && decide (b.stop ≤ b.capacity) && b.heap.wf
    && b.heap.all (fun c => decide (c.1 < b.capacity)) && b.contents.length == b.size

/-- `append(bytes)`: in place if it fits after `end`, else a new heap of exactly the live bytes and the new ones (R142). -/
def append (b : Buffer) (s : List Byte) : Buffer :=
  if b.stop + s.length ≤ b.capacity then
    { b with heap := b.heap.write b.stop s, stop := b.stop + s.length }
  else
    { b with heap := Memory.cellsAt 0 (b.contents ++ s), capacity := b.size + s.length, start := 0,
             stop := b.size + s.length }

/-- `readByte(offset)` (R145). Outside the contents it is refused (R156). -/
def readByte (b : Buffer) (offset : Nat) : Answer Byte :=
  if offset < b.size then
    match b.heap.read (b.start + offset) with
    | some v => .next v
    | none => .fault .unwrittenByte
  else .refused .bufferPrecondition

/-- The three shapes of a `read` (R144). -/
inductive ReadResult where
  | empty
  | one (b : Byte)
  | many (s : List Byte)
deriving DecidableEq, Repr

/-- `read(offset, limit)` (R144): the upper end is clamped to `end`. A read of more than one byte from a window that holds a
byte without a value faults, as a read of that byte does (log entry 7). -/
def read (b : Buffer) (offset limit : Int) : Answer ReadResult :=
  if offset < 0 ∨ limit ≤ 0 then .next .empty
  else if limit = 1 then andThen (b.readByte offset.toNat) fun v => .next (.one v)
  else if b.contents.length = b.size then .next (.many ((b.contents.drop offset.toNat).take limit.toNat))
  else .fault .unwrittenByte

/-- `read()`: with no operands, all contents (R144). -/
def readAll (b : Buffer) : Answer ReadResult := b.read 0 b.size

/-- A `read` result taken as a byte sequence: the callers' special-casing of the single-byte shape (R144, R353). -/
def ReadResult.bytes : ReadResult → List Byte
  | .empty => []
  | .one b => [b]
  | .many s => s

/-- The pseudocode primitive `Read(B, a, n)` (R144). -/
def readBytes (b : Buffer) (a n : Nat) : Answer (List Byte) :=
  andThen (b.read a n) fun r => .next r.bytes

/-- The operand of a hard delete, clamped to `[0, capacity]` (R146, R147). -/
def flushCount (b : Buffer) (n : Int) : Nat := (min (max n 0) b.capacity).toNat

/-- `flushStart(n)`: the window's rest is moved to the front of the heap, the capacity stays (R146). What the clamp leaves
above `size()` is refused (R146, R156). -/
def flushStart (b : Buffer) (n : Int) : Answer Buffer :=
  let n := b.flushCount n
  if n = 0 then .next b
  else if b.size < n then .refused .bufferPrecondition
  else
    .next { b with heap := b.heap.write 0 (b.contents.drop n), start := 0, stop := b.stop - b.start - n }

/-- `flushEnd(n)`: no byte moves, the capacity stays, the same clamp (R147). -/
def flushEnd (b : Buffer) (n : Int) : Answer Buffer :=
  let n := b.flushCount n
  if n = 0 then .next b
  else if b.size < n then .refused .bufferPrecondition
  else .next { b with stop := b.stop - n }

/-- `clear()` (R150). -/
def clear (b : Buffer) : Buffer := { b with start := 0, stop := 0 }

/-- `dropStart(n)`: only the cursors move; the heap is not touched (R148). -/
def dropStart (b : Buffer) (n : Nat) : Buffer :=
  if n = 0 then b
  else if b.stop ≤ b.start + n then b.clear
  else { b with start := b.start + n }

/-- `dropEnd(n)` (R149). -/
def dropEnd (b : Buffer) (n : Nat) : Buffer :=
  if n = 0 then b
  else if b.stop - n ≤ b.start then b.clear
  else { b with stop := b.stop - n }

/-- `setByte(index, value)`; a negative index counts from the end (R151). Outside the contents it is refused (R156). In a
window restored from a stale pair that runs past the capacity (R351), the byte it sets then has a value, at an index past
the capacity too: the spec is silent there, and this is the model's choice (log entry 7). -/
def setByte (b : Buffer) (index : Int) (v : Byte) : Answer Buffer :=
  if 0 ≤ index ∧ index < b.size then .next { b with heap := b.heap.write (b.start + index.toNat) [v] }
  else if index < 0 ∧ -index ≤ b.size then .next { b with heap := b.heap.write (b.stop - (-index).toNat) [v] }
  else .refused .bufferPrecondition

/-- `saveIndices()` (R152). -/
def saveIndices (b : Buffer) : Buffer := { b with saved := some (b.start, b.stop) }

/-- `restoreIndices()` (R152); with nothing saved it is refused (R153). The slot is not emptied. -/
def restoreIndices (b : Buffer) : Answer Buffer :=
  match b.saved with
  | some (start, stop) => .next { b with start := start, stop := stop }
  | none => .refused .bufferPrecondition

end Buffer

/-! ### Responses -/

/-- The block answers a command. -/
def State.respond (s : State) (r : Response) : State := { s with responses := s.responses ++ [r] }

/-! ### The drain -/

/-- How many bytes a drain releases from a buffer of `size` bytes: whole blocks, at least one block left (R283, R284). -/
def drainCount (block size : Nat) : Nat := if block < size then (size / block - 1) * block else 0

/-- `drainX()` and `drainI()` (R283, R284): a copy of the first bytes, then the hard delete. -/
def drain (block : Nat) (b : Buffer) : Answer (Buffer × List Byte) :=
  if block < b.size then
    let n := drainCount block b.size
    andThen (b.readBytes 0 n) fun out => andThen (b.flushStart n) fun b' => .next (b', out)
  else .next (b, [])

/-! ### Taking an error

`raise K` (R307) is the block's one exception entry: the code goes into `err`, everything decoded or encoded and not yet
delivered goes out with the response, and the unit enters Error. Nothing else is saved, and there is no handler: the
return from it is RESET, which starts a new stream (R313). -/

/-- `raise K` in the EXPLODE unit (R307). `needMoreInput` is cleared, as R32 has it in Error (log entry 11). -/
def raiseX (k : ErrorCode) (s : State) : Answer State :=
  andThen (s.x.outBuf.readBytes 0 s.x.outBuf.size) fun out =>
    .next (({ s with x := { s.x with
      err := k, outBuf := s.x.outBuf.clear, xstate := .error, needMoreInput := false, repeatLength := none } } :
        State).respond ⟨.error, k, out⟩)

/-- `raise K` in the IMPLODE unit (R307). -/
def raiseI (k : ErrorCode) (s : State) : Answer State :=
  andThen (s.i.outBuf.readBytes 0 s.i.outBuf.size) fun out =>
    .next (({ s with i := { s.i with err := k, outBuf := s.i.outBuf.clear, istate := .error } } :
      State).respond ⟨.error, k, out⟩)

/-! ### The EXPLODE unit -/

/-- What the bit reader sees: the two registers and the contents of `inBuf`. -/
def XUnit.reader (x : XUnit) : BitReader := ⟨x.bitBuffer, x.extraBits, x.inBuf.contents⟩

/-- The unit after its reader has moved on to `r`: one `DropStart(inBuf, 1)` for each byte pulled (R183), taken
together. -/
def XUnit.commit (x : XUnit) (r : BitReader) : XUnit :=
  { x with bitBuffer := r.bitBuffer, extraBits := r.extraBits,
           inBuf := x.inBuf.dropStart (x.inBuf.size - r.input.length) }

/-- `backup()` (R208). -/
def XUnit.backup (x : XUnit) : XUnit :=
  { x with snap := some (x.bitBuffer, x.extraBits), inBuf := x.inBuf.saveIndices }

/-- `restore()` (R213). -/
def XUnit.restore (x : XUnit) : Answer XUnit :=
  match x.snap with
  | some (bitBuffer, extraBits) =>
    andThen x.inBuf.restoreIndices fun inBuf =>
      .next { x with bitBuffer := bitBuffer, extraBits := extraBits, inBuf := inBuf }
  | none => .refused .bufferPrecondition

/-- `suspend()` (R213). A COPY that lacks input in its distance part goes back to before its length part (R209). -/
def XUnit.suspend (x : XUnit) : Answer XUnit :=
  andThen x.restore fun x => .next { x with xstate := .suspended, needMoreInput := true, repeatLength := none }

/-- `complete()` (R212). -/
def XUnit.complete (x : XUnit) : XUnit :=
  { x with xstate := .complete, endOfStream := true, repeatLength := none }

/-- The end of an `X.PUSH` whose decode loop has stopped: the drain and the response (R203). -/
def finishPush (s : State) : Answer State :=
  andThen (drain s.cfg.blockX s.x.outBuf) fun (outBuf, out) =>
    .next (({ s with x := { s.x with outBuf := outBuf } } : State).respond ⟨s.x.xstate.status, .none, out⟩)

/-- A token's decode ran out of input: suspend, and the push ends (R206, R213). -/
def suspendPush (s : State) : Answer State :=
  andThen s.x.suspend fun x => finishPush { s with x := x }

/-- Token execution happens in Decoding only (R206). -/
def inDecoding (s : State) (k : Answer State) : Answer State :=
  if s.x.xstate = .decoding then k else .refused .outsideDecoding

/-- The body of the decode loop for a decoded token `t` (R206): END (R212), the length part of a COPY, whose distance
part is decoded next (R209), or a literal (R207). -/
def executeToken (t : Nat) (s : State) : Answer State :=
  inDecoding s <|
    if t = endTokenNumber then finishPush { s with x := s.x.complete }
    else if 0x100 ≤ t then .next { s with x := { s.x with repeatLength := some (repeatLengthOf t) } }
    else .next { s with x := { s.x with outBuf := s.x.outBuf.append [BitVec.ofNat 8 t] } }

/-- The distance part of a COPY with position code `p` and low bits `low`: the distance (R192), the distance check
(R210), and the copy (R211), whose bytes are appended together (log entry 14). -/
def executeDistance (p : Nat) (low : BitVec 6) (s : State) : Answer State :=
  inDecoding s <|
    match s.x.repeatLength with
    | none => .refused .noLengthPart
    | some n =>
      let d := trueDistance n s.x.dictBits p low.toNat
      if s.x.outBuf.size < d then raiseX .distanceBeyondHistory s
      else
        match copiedBytes s.x.outBuf.contents n d with
        | none => .fault .unwrittenByte
        | some bytes =>
          .next { s with x := { s.x with outBuf := s.x.outBuf.append bytes, repeatLength := none } }

/-- `parseHeader()` and the step into Decoding (R205, R203), with its precondition (log entry 10). Byte 0 is checked
before byte 1 (R310); on a raise nothing has been written. `W` goes with `dictBits` (R24). -/
def parseHeader (m d seed : Byte) (s : State) : Answer State :=
  if s.x.xstate = .awaitingHeader ∧ 4 ≤ s.x.inBuf.size then
    match CompressionMode.ofByte m with
    | none => raiseX .invalidCompressionType s
    | some mode =>
      match DictionarySize.ofByte d with
      | none => raiseX .invalidDictionarySize s
      | some dict =>
        .next { s with x := { s.x with
          mode := mode
          dictBits := dict
          bitBuffer := seed.setWidth 16
          extraBits := 0
          inBuf := s.x.inBuf.dropStart 3
          tables := if mode = .ascii then s.x.tables.withAscii s.cfg.tables else s.x.tables
          distMask := dict.distMask
          window := dict.window
          headerParsed := true
          xstate := .decoding
          needMoreInput := false } }
  else .refused .noHeaderAwaited

/-! ### The IMPLODE unit -/

/-- `outputBits` for at most 8 bits (R252): patch the last byte, then carry the rest into a new byte, or open the next
byte as soon as this one is full. -/
def outputByte (n code : Nat) (i : IUnit) : Answer IUnit :=
  let old := i.outBits.toNat
  andThen (if i.outBuf.size = 0 then .refused .bufferPrecondition else i.outBuf.readByte (i.outBuf.size - 1)) fun last =>
    andThen (i.outBuf.setByte (-1) (last ||| BitVec.ofNat 8 (code <<< old))) fun b =>
      let outBits := BitVec.ofNat 3 (old + n)
      .next { i with
        outBuf :=
          if 8 < old + n then b.append [BitVec.ofNat 8 (code >>> (8 - old))]
          else if outBits = 0 then b.append [0]
          else b
        outBits := outBits }

/-- `outputBits(nBits, code)` (R252): "recursive split for nBits>8". -/
def outputBits (n code : Nat) (i : IUnit) : Answer IUnit :=
  if 8 < n then andThen (outputByte 8 (lowbits 8 code) i) (outputByte (n - 8) (code >>> 8))
  else outputByte n code i

/-- The first part of token `t`, from the encode tables (R232, R251). -/
def emitToken (t : Nat) (i : IUnit) : Answer IUnit :=
  match i.literalBits[t]?, i.literalCodes[t]? with
  | some n, some code => outputBits n code i
  | _, _ => .refused .unfilledEntry

/-- `emitLiteral(b)` (R254). -/
def emitLiteral (b : Byte) (i : IUnit) : Answer IUnit := emitToken b.toNat i

/-- `emitMatch(size, D)` (R255): the length token, the distance-position code, the low distance bits, and the cursor
past the match. -/
def emitMatch (t : CodeTables) (size d : Nat) (i : IUnit) : Answer IUnit :=
  let p := positionCode size i.dictBits d
  andThen (emitToken (size + 0xFE) i) fun i =>
    match t.distBits[p]?, t.distCode[p]? with
    | some n, some code =>
      andThen (outputBits n code i) fun i =>
        andThen (outputBits (lowWidth size i.dictBits) (lowDistanceBits size i.distMask d) i) fun i =>
          .next { i with cursor := i.cursor + size }
    | _, _ => .refused .unfilledEntry

/-- `emitEnd()` (R256). -/
def emitEnd (i : IUnit) : Answer IUnit := emitToken endTokenNumber i

/-- `evict()` (R258). -/
def evict (i : IUnit) : IUnit :=
  if i.window.toNat ≤ i.cursor then
    { i with inBuf := i.inBuf.dropStart i.window.toNat, cursor := i.cursor - i.window.toNat }
  else i

/-- Whether a scan step may run (R237); `hold` is `IMPLODE_LOOKAHEAD_HOLD`. -/
def enabled (hold : Bool) (i : IUnit) : Bool :=
  decide (i.cursor < i.inBuf.size) &&
    (i.streamEnded ||
      if hold then decide (longestAllowedRepetition ≤ i.inBuf.size - i.cursor)
      else i.handledFirstTwoBytes || decide (3 ≤ i.inBuf.size))

/-- `firstTwoBytes()` (R236). -/
def firstTwoBytes (i : IUnit) : Answer IUnit :=
  let i := { i with handledFirstTwoBytes := true }
  if 3 ≤ i.inBuf.size then
    andThen (i.inBuf.readByte 0) fun b0 =>
      andThen (emitLiteral b0 i) fun i =>
        andThen (i.inBuf.readByte 1) fun b1 =>
          andThen (emitLiteral b1 i) fun i => .next { i with cursor := 2 }
  else .next i

/-- `scanStep()` (R240). -/
def scanStep (t : CodeTables) (i : IUnit) : Answer IUnit :=
  let m := findRepetitions i.inBuf.contents i.cursor
  andThen
    (if flushable m.1 m.2 then emitMatch t m.1 m.2 i
     else
      andThen (i.inBuf.readByte i.cursor) fun b =>
        andThen (emitLiteral b i) fun i => .next { i with cursor := i.cursor + 1 })
    fun i => .next (evict i)

/-- `scanLoop()` (R260), at most `fuel` rounds. -/
def scanRounds (t : CodeTables) (hold : Bool) : Nat → IUnit → Answer IUnit
  | 0, i => .next i
  | fuel + 1, i =>
    if enabled hold i then
      andThen (if i.handledFirstTwoBytes then scanStep t i else firstTwoBytes i) (scanRounds t hold fuel)
    else .next i

/-- `scanLoop()` (R260). Each round but the flag-only first one brings `cursor` nearer the end of `inBuf`, so this many
rounds are enough. -/
def scanLoop (t : CodeTables) (hold : Bool) (i : IUnit) : Answer IUnit :=
  scanRounds t hold (i.inBuf.size - i.cursor + 1) i

/-- Setup (R231): the encode tables, the mask and the window, and the 3-byte header in `outBuf` (R235). -/
def setupI (k : CodeTables) (mode : CompressionMode) (dict : DictionarySize) : IUnit :=
  { IUnit.blank with
    live := true
    istate := .accumulating
    mode := mode
    dictBits := dict
    distMask := dict.distMask
    window := dict.window
    literalBits := literalBitsTable k mode
    literalCodes := literalCodesTable k mode
    outBuf := Buffer.new.append [mode.toByte, dict.toByte, 0x00] }

end Sys2Proof.Machine
end

