-- ==== Sys2Proof/Machine/Distance.lean ====
section
/-! DEFINITION. The meanings of the distance parts `DIST.0` to `DIST.63` (30_encoding.md rule R108, 42_explode_decode.md rule
R192, 43_explode_engine.md rules R209 to R211). -/

namespace Sys2Proof.Machine

def execDist0 (low : BitVec 6) (s : State) : Answer State := executeDistance 0 low s
def execDist1 (low : BitVec 6) (s : State) : Answer State := executeDistance 1 low s
def execDist2 (low : BitVec 6) (s : State) : Answer State := executeDistance 2 low s
def execDist3 (low : BitVec 6) (s : State) : Answer State := executeDistance 3 low s
def execDist4 (low : BitVec 6) (s : State) : Answer State := executeDistance 4 low s
def execDist5 (low : BitVec 6) (s : State) : Answer State := executeDistance 5 low s
def execDist6 (low : BitVec 6) (s : State) : Answer State := executeDistance 6 low s
def execDist7 (low : BitVec 6) (s : State) : Answer State := executeDistance 7 low s
def execDist8 (low : BitVec 6) (s : State) : Answer State := executeDistance 8 low s
def execDist9 (low : BitVec 6) (s : State) : Answer State := executeDistance 9 low s
def execDist10 (low : BitVec 6) (s : State) : Answer State := executeDistance 10 low s
def execDist11 (low : BitVec 6) (s : State) : Answer State := executeDistance 11 low s
def execDist12 (low : BitVec 6) (s : State) : Answer State := executeDistance 12 low s
def execDist13 (low : BitVec 6) (s : State) : Answer State := executeDistance 13 low s
def execDist14 (low : BitVec 6) (s : State) : Answer State := executeDistance 14 low s
def execDist15 (low : BitVec 6) (s : State) : Answer State := executeDistance 15 low s
def execDist16 (low : BitVec 6) (s : State) : Answer State := executeDistance 16 low s
def execDist17 (low : BitVec 6) (s : State) : Answer State := executeDistance 17 low s
def execDist18 (low : BitVec 6) (s : State) : Answer State := executeDistance 18 low s
def execDist19 (low : BitVec 6) (s : State) : Answer State := executeDistance 19 low s
def execDist20 (low : BitVec 6) (s : State) : Answer State := executeDistance 20 low s
def execDist21 (low : BitVec 6) (s : State) : Answer State := executeDistance 21 low s
def execDist22 (low : BitVec 6) (s : State) : Answer State := executeDistance 22 low s
def execDist23 (low : BitVec 6) (s : State) : Answer State := executeDistance 23 low s
def execDist24 (low : BitVec 6) (s : State) : Answer State := executeDistance 24 low s
def execDist25 (low : BitVec 6) (s : State) : Answer State := executeDistance 25 low s
def execDist26 (low : BitVec 6) (s : State) : Answer State := executeDistance 26 low s
def execDist27 (low : BitVec 6) (s : State) : Answer State := executeDistance 27 low s
def execDist28 (low : BitVec 6) (s : State) : Answer State := executeDistance 28 low s
def execDist29 (low : BitVec 6) (s : State) : Answer State := executeDistance 29 low s
def execDist30 (low : BitVec 6) (s : State) : Answer State := executeDistance 30 low s
def execDist31 (low : BitVec 6) (s : State) : Answer State := executeDistance 31 low s
def execDist32 (low : BitVec 6) (s : State) : Answer State := executeDistance 32 low s
def execDist33 (low : BitVec 6) (s : State) : Answer State := executeDistance 33 low s
def execDist34 (low : BitVec 6) (s : State) : Answer State := executeDistance 34 low s
def execDist35 (low : BitVec 6) (s : State) : Answer State := executeDistance 35 low s
def execDist36 (low : BitVec 6) (s : State) : Answer State := executeDistance 36 low s
def execDist37 (low : BitVec 6) (s : State) : Answer State := executeDistance 37 low s
def execDist38 (low : BitVec 6) (s : State) : Answer State := executeDistance 38 low s
def execDist39 (low : BitVec 6) (s : State) : Answer State := executeDistance 39 low s
def execDist40 (low : BitVec 6) (s : State) : Answer State := executeDistance 40 low s
def execDist41 (low : BitVec 6) (s : State) : Answer State := executeDistance 41 low s
def execDist42 (low : BitVec 6) (s : State) : Answer State := executeDistance 42 low s
def execDist43 (low : BitVec 6) (s : State) : Answer State := executeDistance 43 low s
def execDist44 (low : BitVec 6) (s : State) : Answer State := executeDistance 44 low s
def execDist45 (low : BitVec 6) (s : State) : Answer State := executeDistance 45 low s
def execDist46 (low : BitVec 6) (s : State) : Answer State := executeDistance 46 low s
def execDist47 (low : BitVec 6) (s : State) : Answer State := executeDistance 47 low s
def execDist48 (low : BitVec 6) (s : State) : Answer State := executeDistance 48 low s
def execDist49 (low : BitVec 6) (s : State) : Answer State := executeDistance 49 low s
def execDist50 (low : BitVec 6) (s : State) : Answer State := executeDistance 50 low s
def execDist51 (low : BitVec 6) (s : State) : Answer State := executeDistance 51 low s
def execDist52 (low : BitVec 6) (s : State) : Answer State := executeDistance 52 low s
def execDist53 (low : BitVec 6) (s : State) : Answer State := executeDistance 53 low s
def execDist54 (low : BitVec 6) (s : State) : Answer State := executeDistance 54 low s
def execDist55 (low : BitVec 6) (s : State) : Answer State := executeDistance 55 low s
def execDist56 (low : BitVec 6) (s : State) : Answer State := executeDistance 56 low s
def execDist57 (low : BitVec 6) (s : State) : Answer State := executeDistance 57 low s
def execDist58 (low : BitVec 6) (s : State) : Answer State := executeDistance 58 low s
def execDist59 (low : BitVec 6) (s : State) : Answer State := executeDistance 59 low s
def execDist60 (low : BitVec 6) (s : State) : Answer State := executeDistance 60 low s
def execDist61 (low : BitVec 6) (s : State) : Answer State := executeDistance 61 low s
def execDist62 (low : BitVec 6) (s : State) : Answer State := executeDistance 62 low s
def execDist63 (low : BitVec 6) (s : State) : Answer State := executeDistance 63 low s

end Sys2Proof.Machine
end

