-- ==== Sys2Proof/Machine/Header.lean ====
section
/-! DEFINITION. The meaning of the HEADER (43_explode_engine.md rule R205). -/

namespace Sys2Proof.Machine

/-- HEADER (R101, R205, R310). -/
def execHeader (compressionType dictionarySizeBits seed : Byte) (s : State) : Answer State :=
  parseHeader compressionType dictionarySizeBits seed s

end Sys2Proof.Machine
end

