-- ==== Sys2Proof/Machine/Fetch.lean ====
section
/-! DEFINITION. The fetch: which code space the block reads next, and the instruction it decodes there. The EXPLODE unit
fetches from `inBuf` only (20_memory.md rule R86); a host command is taken when no push is running (log entries 1, 2 and
16). -/

namespace Sys2Proof.Machine

/-- The code space the EXPLODE unit reads next while an `X.PUSH` runs: the header once 4 bytes are buffered (R204), a
token (R206), or the distance part of a COPY whose length part is decoded (R209). `none`: no push is running. -/
def XUnit.space? (x : XUnit) : Option Space :=
  if x.live then
    match x.xstate with
    | .awaitingHeader => if 4 ≤ x.inBuf.size then some .header else none
    | .decoding =>
      match x.repeatLength with
      | none => some (.token x.mode)
      | some n => some (.distance n x.dictBits x.distMask)
    | .suspended => none
    | .complete => none
    | .error => none
  else none

/-- The unit as the decode of a token starts from it: `backup()` runs before the flag bit of each token is read (R208),
and nowhere else (R209). -/
def XUnit.atBoundary (x : XUnit) : Space → XUnit
  | .token _ => x.backup
  | .header => x
  | .distance _ _ _ => x
  | .host => x

/-- What the fetch finds. -/
inductive Fetch where
  /-- no push is running and the host has issued nothing: the block is idle (R20) -/
  | idle
  /-- an instruction, and the state past it -/
  | instr (i : Instr) (s : State)
  /-- the token's decode signalled NeedMoreInput (R180); the state as the failed attempt left it -/
  | starved (s : State)
  /-- nothing the spec gives a meaning -/
  | stop (r : Refusal)
deriving DecidableEq, Repr

/-- The fetch of a running push, from a code space of the stream. -/
def fetchStream (sp : Space) (s : State) : Fetch :=
  let x := s.x.atBoundary sp
  match decode s.cfg.tables x.tables sp x.reader with
  | .instr i r => .instr i { s with x := x.commit r }
  | .needMoreInput r => .starved { s with x := x.commit r }
  | .unfilledEntry => .stop .unfilledEntry

/-- The refusal of a rejected transaction (R117). -/
def CommandError.refusal : CommandError → Refusal
  | .reserved => .reservedCommand
  | .malformedOperand => .malformedOperand

/-- The fetch of the oldest host command. -/
def fetchHost (s : State) : Fetch :=
  match s.host with
  | [] => .idle
  | c :: rest =>
    match decodeCommand c with
    | .ok i => .instr i { s with host := rest }
    | .error e => .stop (CommandError.refusal e)

/-- The fetch. A running push is finished before the next command is taken: "one command at a time, run to a stop"
(R8, R350). -/
def fetch (s : State) : Fetch :=
  match s.x.space? with
  | some sp => fetchStream sp s
  | none => fetchHost s

/-! ### Placing one instruction where the next step fetches it -/

/-- The EXPLODE unit about to read a code space of the stream from a reader. -/
def XUnit.placed (k : CodeTables) (x : XUnit) (sp : Space) (r : BitReader) : XUnit :=
  let x := { x with live := true, endOfStream := false, needMoreInput := false,
                    bitBuffer := r.bitBuffer, extraBits := r.extraBits, inBuf := Buffer.new.append r.input }
  match sp with
  | .header => { x with xstate := .awaitingHeader, headerParsed := false, repeatLength := none }
  | .token mode =>
    { x with xstate := .decoding, headerParsed := true, repeatLength := none, mode := mode
             tables := if mode = .ascii then x.tables.withAscii k else x.tables }
  | .distance n d mask =>
    { x with xstate := .decoding, headerParsed := true, repeatLength := some n, dictBits := d, distMask := mask
             window := d.window }
  | .host => x

/-- A table word as the next instruction (log entries 2 and 8): its bytes stand in `bitBuffer` and `inBuf`, the unit in
the state that reads them; a host command stands first in the queue, with no push running and, for a command that
needs a unit that has been reset, such a unit. -/
def State.placeWord (s : State) (nbits w : Nat) : State :=
  match tableSpace nbits w with
  | .host =>
    { s with
      host := tableCommand w :: s.host
      x := if s.x.space?.isSome ∨ ((w = 1 ∨ w = 2) ∧ s.x.live = false) then XUnit.reset s.cfg.tables else s.x
      i := if (w = 5 ∨ w = 6) ∧ s.i.live = false then setupI s.cfg.tables .binary .small else s.i }
  | .header => { s with x := s.x.placed s.cfg.tables .header (headerReader w) }
  | .token mode => { s with x := s.x.placed s.cfg.tables (.token mode) (tableReader w) }
  | .distance n d mask => { s with x := s.x.placed s.cfg.tables (.distance n d mask) (tableReader w) }

end Sys2Proof.Machine
end

