-- ==== Sys2Proof/Machine/HostCommands.lean ====
section
/-! DEFINITION. The meanings of the six host commands (43_explode_engine.md rules R200 to R217, 44_implode_match.md
rule R231, 45_implode_emit.md rules R260 to R263). -/

namespace Sys2Proof.Machine

/-- RESET constructs the unit, and the block is not constructed with Static Code Tables that violate a constraint (R119,
U10). R9 bounds the block sizes too and does not say what a block built outside those bounds does; that RESET checks the
tables alone, and that a block with other sizes runs, is the model's choice (log entry 22, DESIGN CHOICE). -/
def withLegalTables (s : State) (k : Answer State) : Answer State :=
  if s.cfg.tables.admitted then k else .refused .illegalTables

/-- `X.RESET` (R201): whatever the unit was before, it is in R47's state. -/
def execXReset (s : State) : Answer State :=
  withLegalTables s <| .next ({ s with x := XUnit.reset s.cfg.tables }.respond ⟨.ready, .none, []⟩)

/-- `X.PUSH(bytes)` (R203), up to the header parse or the decode loop, which the next steps run (log entry 1). With
fewer than 4 bytes buffered the push ends here (R204). -/
def execXPush (bytes : List Byte) (s : State) : Answer State :=
  if s.x.live = false then .refused .neverReset
  else if s.x.space?.isSome then .refused .commandInProgress
  else
    match s.x.xstate with
    | .error => .next (s.respond ⟨.error, s.x.err, []⟩)
    | .complete => .next (s.respond ⟨.done, .none, []⟩)
    | .awaitingHeader =>
      let inBuf := s.x.inBuf.append bytes
      let t := { s with x := { s.x with inBuf := inBuf } }
      .next (if inBuf.size < 4 then t.respond ⟨.ready, .none, []⟩ else t)
    | .suspended =>
      .next { s with x := { s.x with
        inBuf := s.x.inBuf.append bytes, xstate := .decoding, needMoreInput := false } }
    | .decoding => .refused .commandInProgress

/-- `X.FINISH` (R215, R216, R217). -/
def execXFinish (s : State) : Answer State :=
  if s.x.live = false then .refused .neverReset
  else if s.x.space?.isSome then .refused .commandInProgress
  else
    match s.x.xstate with
    | .error => .next (s.respond ⟨.error, s.x.err, []⟩)
    | .complete =>
      andThen (s.x.outBuf.readBytes 0 s.x.outBuf.size) fun out =>
        .next ({ s with x := { s.x with outBuf := s.x.outBuf.clear } }.respond ⟨.done, .none, out⟩)
    | .awaitingHeader => raiseX .aborted s
    | .suspended => raiseX .aborted s
    | .decoding => .refused .commandInProgress

/-- `I.RESET(m, d)` (R231); with illegal operands the unit is in Error with empty buffers and no tables (R304, mode
checked first: R310; log entry 18). -/
def execIReset (m d : Byte) (s : State) : Answer State :=
  withLegalTables s <|
    let discarded := { s with i := { IUnit.blank with live := true } }
    match CompressionMode.ofByte m with
    | none => raiseI .invalidCompressionType discarded
    | some mode =>
      match DictionarySize.ofByte d with
      | none => raiseI .invalidDictionarySize discarded
      | some dict => .next ({ s with i := setupI s.cfg.tables mode dict }.respond ⟨.ready, .none, []⟩)

/-- `I.PUSH(bytes)` (R260, R263). -/
def execIPush (bytes : List Byte) (s : State) : Answer State :=
  if s.i.live = false then .refused .neverReset
  else
    match s.i.istate with
    | .error => .next (s.respond ⟨.error, s.i.err, []⟩)
    | .finalized => .next (s.respond ⟨.done, .none, []⟩)
    | .accumulating =>
      andThen (scanLoop s.cfg.tables s.cfg.lookaheadHold { s.i with inBuf := s.i.inBuf.append bytes }) fun i =>
        andThen (drain s.cfg.blockI i.outBuf) fun (outBuf, out) =>
          .next ({ s with i := { i with outBuf := outBuf, istate := .accumulating } }.respond ⟨.ready, .none, out⟩)
    | .setup => .refused .commandInProgress
    | .flushing => .refused .commandInProgress

/-- `I.FINISH` (R262, R263). -/
def execIFinish (s : State) : Answer State :=
  if s.i.live = false then .refused .neverReset
  else
    match s.i.istate with
    | .error => .next (s.respond ⟨.error, s.i.err, []⟩)
    | .finalized => .next (s.respond ⟨.done, .none, []⟩)
    | .accumulating =>
      andThen (scanLoop s.cfg.tables s.cfg.lookaheadHold { s.i with streamEnded := true }) fun i =>
        andThen (emitEnd i) fun i =>
          andThen (i.outBuf.readBytes 0 i.outBuf.size) fun out =>
            .next ({ s with i := { i with outBuf := i.outBuf.clear, istate := .finalized } }.respond
              ⟨.done, .none, out⟩)
    | .setup => .refused .commandInProgress
    | .flushing => .refused .commandInProgress

end Sys2Proof.Machine
end

