-- ==== Sys2Proof/Machine/Length.lean ====
section
/-! DEFINITION. The meanings of the length parts `LEN.0` to `LEN.15` and of `END` (30_encoding.md rules R107 and R109,
43_explode_engine.md rules R206, R209 and R212). Each executes its token number (R110). -/

namespace Sys2Proof.Machine

def execLen0 (s : State) : Answer State := executeToken (lengthToken s.cfg.tables 0 0) s
def execLen1 (s : State) (e : BitVec 8 := 0) : Answer State := executeToken (lengthToken s.cfg.tables 1 e.toNat) s
def execLen2 (s : State) (e : BitVec 8 := 0) : Answer State := executeToken (lengthToken s.cfg.tables 2 e.toNat) s
def execLen3 (s : State) (e : BitVec 8 := 0) : Answer State := executeToken (lengthToken s.cfg.tables 3 e.toNat) s
def execLen4 (s : State) (e : BitVec 8 := 0) : Answer State := executeToken (lengthToken s.cfg.tables 4 e.toNat) s
def execLen5 (s : State) (e : BitVec 8 := 0) : Answer State := executeToken (lengthToken s.cfg.tables 5 e.toNat) s
def execLen6 (s : State) (e : BitVec 8 := 0) : Answer State := executeToken (lengthToken s.cfg.tables 6 e.toNat) s
def execLen7 (s : State) (e : BitVec 8 := 0) : Answer State := executeToken (lengthToken s.cfg.tables 7 e.toNat) s
def execLen8 (e : BitVec 8) (s : State) : Answer State := executeToken (lengthToken s.cfg.tables 8 e.toNat) s
def execLen9 (e : BitVec 8) (s : State) : Answer State := executeToken (lengthToken s.cfg.tables 9 e.toNat) s
def execLen10 (e : BitVec 8) (s : State) : Answer State := executeToken (lengthToken s.cfg.tables 10 e.toNat) s
def execLen11 (e : BitVec 8) (s : State) : Answer State := executeToken (lengthToken s.cfg.tables 11 e.toNat) s
def execLen12 (e : BitVec 8) (s : State) : Answer State := executeToken (lengthToken s.cfg.tables 12 e.toNat) s
def execLen13 (e : BitVec 8) (s : State) : Answer State := executeToken (lengthToken s.cfg.tables 13 e.toNat) s
def execLen14 (e : BitVec 8) (s : State) : Answer State := executeToken (lengthToken s.cfg.tables 14 e.toNat) s
def execLen15 (e : BitVec 8) (s : State) : Answer State := executeToken (lengthToken s.cfg.tables 15 e.toNat) s

/-- `END` (R109, R212). -/
def execEndToken (s : State) : Answer State := executeToken endTokenNumber s

end Sys2Proof.Machine
end

