-- ==== Sys2Proof/Machine/Dispatch.lean ====
section
/-! DEFINITION. The dispatch: one arm per instruction. -/

namespace Sys2Proof.Machine

/-- The meaning of an instruction. -/
def exec (i : Instr) (s : State) : Host.Outcome State Fault Refusal :=
  match i with
  | .header m d seed => Sys2Proof.Machine.execHeader m d seed s
  | .litB b => Sys2Proof.Machine.execLitB b s
  | .len0 => Sys2Proof.Machine.execLen0 s
  | .len1 e => Sys2Proof.Machine.execLen1 s e
  | .len2 e => Sys2Proof.Machine.execLen2 s e
  | .len3 e => Sys2Proof.Machine.execLen3 s e
  | .len4 e => Sys2Proof.Machine.execLen4 s e
  | .len5 e => Sys2Proof.Machine.execLen5 s e
  | .len6 e => Sys2Proof.Machine.execLen6 s e
  | .len7 e => Sys2Proof.Machine.execLen7 s e
  | .len8 e => Sys2Proof.Machine.execLen8 e s
  | .len9 e => Sys2Proof.Machine.execLen9 e s
  | .len10 e => Sys2Proof.Machine.execLen10 e s
  | .len11 e => Sys2Proof.Machine.execLen11 e s
  | .len12 e => Sys2Proof.Machine.execLen12 e s
  | .len13 e => Sys2Proof.Machine.execLen13 e s
  | .len14 e => Sys2Proof.Machine.execLen14 e s
  | .endToken => Sys2Proof.Machine.execEndToken s
  | .len15 e => Sys2Proof.Machine.execLen15 e s
  | .dist0 low => Sys2Proof.Machine.execDist0 low s
  | .dist1 low => Sys2Proof.Machine.execDist1 low s
  | .dist2 low => Sys2Proof.Machine.execDist2 low s
  | .dist3 low => Sys2Proof.Machine.execDist3 low s
  | .dist4 low => Sys2Proof.Machine.execDist4 low s
  | .dist5 low => Sys2Proof.Machine.execDist5 low s
  | .dist6 low => Sys2Proof.Machine.execDist6 low s
  | .dist7 low => Sys2Proof.Machine.execDist7 low s
  | .dist8 low => Sys2Proof.Machine.execDist8 low s
  | .dist9 low => Sys2Proof.Machine.execDist9 low s
  | .dist10 low => Sys2Proof.Machine.execDist10 low s
  | .dist11 low => Sys2Proof.Machine.execDist11 low s
  | .dist12 low => Sys2Proof.Machine.execDist12 low s
  | .dist13 low => Sys2Proof.Machine.execDist13 low s
  | .dist14 low => Sys2Proof.Machine.execDist14 low s
  | .dist15 low => Sys2Proof.Machine.execDist15 low s
  | .dist16 low => Sys2Proof.Machine.execDist16 low s
  | .dist17 low => Sys2Proof.Machine.execDist17 low s
  | .dist18 low => Sys2Proof.Machine.execDist18 low s
  | .dist19 low => Sys2Proof.Machine.execDist19 low s
  | .dist20 low => Sys2Proof.Machine.execDist20 low s
  | .dist21 low => Sys2Proof.Machine.execDist21 low s
  | .dist22 low => Sys2Proof.Machine.execDist22 low s
  | .dist23 low => Sys2Proof.Machine.execDist23 low s
  | .dist24 low => Sys2Proof.Machine.execDist24 low s
  | .dist25 low => Sys2Proof.Machine.execDist25 low s
  | .dist26 low => Sys2Proof.Machine.execDist26 low s
  | .dist27 low => Sys2Proof.Machine.execDist27 low s
  | .dist28 low => Sys2Proof.Machine.execDist28 low s
  | .dist29 low => Sys2Proof.Machine.execDist29 low s
  | .dist30 low => Sys2Proof.Machine.execDist30 low s
  | .dist31 low => Sys2Proof.Machine.execDist31 low s
  | .dist32 low => Sys2Proof.Machine.execDist32 low s
  | .dist33 low => Sys2Proof.Machine.execDist33 low s
  | .dist34 low => Sys2Proof.Machine.execDist34 low s
  | .dist35 low => Sys2Proof.Machine.execDist35 low s
  | .dist36 low => Sys2Proof.Machine.execDist36 low s
  | .dist37 low => Sys2Proof.Machine.execDist37 low s
  | .dist38 low => Sys2Proof.Machine.execDist38 low s
  | .dist39 low => Sys2Proof.Machine.execDist39 low s
  | .dist40 low => Sys2Proof.Machine.execDist40 low s
  | .dist41 low => Sys2Proof.Machine.execDist41 low s
  | .dist42 low => Sys2Proof.Machine.execDist42 low s
  | .dist43 low => Sys2Proof.Machine.execDist43 low s
  | .dist44 low => Sys2Proof.Machine.execDist44 low s
  | .dist45 low => Sys2Proof.Machine.execDist45 low s
  | .dist46 low => Sys2Proof.Machine.execDist46 low s
  | .dist47 low => Sys2Proof.Machine.execDist47 low s
  | .dist48 low => Sys2Proof.Machine.execDist48 low s
  | .dist49 low => Sys2Proof.Machine.execDist49 low s
  | .dist50 low => Sys2Proof.Machine.execDist50 low s
  | .dist51 low => Sys2Proof.Machine.execDist51 low s
  | .dist52 low => Sys2Proof.Machine.execDist52 low s
  | .dist53 low => Sys2Proof.Machine.execDist53 low s
  | .dist54 low => Sys2Proof.Machine.execDist54 low s
  | .dist55 low => Sys2Proof.Machine.execDist55 low s
  | .dist56 low => Sys2Proof.Machine.execDist56 low s
  | .dist57 low => Sys2Proof.Machine.execDist57 low s
  | .dist58 low => Sys2Proof.Machine.execDist58 low s
  | .dist59 low => Sys2Proof.Machine.execDist59 low s
  | .dist60 low => Sys2Proof.Machine.execDist60 low s
  | .dist61 low => Sys2Proof.Machine.execDist61 low s
  | .dist62 low => Sys2Proof.Machine.execDist62 low s
  | .dist63 low => Sys2Proof.Machine.execDist63 low s
  | .xReset => Sys2Proof.Machine.execXReset s
  | .xPush bytes => Sys2Proof.Machine.execXPush bytes s
  | .xFinish => Sys2Proof.Machine.execXFinish s
  | .iReset m d => Sys2Proof.Machine.execIReset m d s
  | .iPush bytes => Sys2Proof.Machine.execIPush bytes s
  | .iFinish => Sys2Proof.Machine.execIFinish s
  | .litA00 => Sys2Proof.Machine.execLitA00 s
  | .litA01 => Sys2Proof.Machine.execLitA01 s
  | .litA02 => Sys2Proof.Machine.execLitA02 s
  | .litA03 => Sys2Proof.Machine.execLitA03 s
  | .litA04 => Sys2Proof.Machine.execLitA04 s
  | .litA05 => Sys2Proof.Machine.execLitA05 s
  | .litA06 => Sys2Proof.Machine.execLitA06 s
  | .litA07 => Sys2Proof.Machine.execLitA07 s
  | .litA08 => Sys2Proof.Machine.execLitA08 s
  | .litA09 => Sys2Proof.Machine.execLitA09 s
  | .litA0A => Sys2Proof.Machine.execLitA0A s
  | .litA0B => Sys2Proof.Machine.execLitA0B s
  | .litA0C => Sys2Proof.Machine.execLitA0C s
  | .litA0D => Sys2Proof.Machine.execLitA0D s
  | .litA0E => Sys2Proof.Machine.execLitA0E s
  | .litA0F => Sys2Proof.Machine.execLitA0F s
  | .litA10 => Sys2Proof.Machine.execLitA10 s
  | .litA11 => Sys2Proof.Machine.execLitA11 s
  | .litA12 => Sys2Proof.Machine.execLitA12 s
  | .litA13 => Sys2Proof.Machine.execLitA13 s
  | .litA14 => Sys2Proof.Machine.execLitA14 s
  | .litA15 => Sys2Proof.Machine.execLitA15 s
  | .litA16 => Sys2Proof.Machine.execLitA16 s
  | .litA17 => Sys2Proof.Machine.execLitA17 s
  | .litA18 => Sys2Proof.Machine.execLitA18 s
  | .litA19 => Sys2Proof.Machine.execLitA19 s
  | .litA1A => Sys2Proof.Machine.execLitA1A s
  | .litA1B => Sys2Proof.Machine.execLitA1B s
  | .litA1C => Sys2Proof.Machine.execLitA1C s
  | .litA1D => Sys2Proof.Machine.execLitA1D s
  | .litA1E => Sys2Proof.Machine.execLitA1E s
  | .litA1F => Sys2Proof.Machine.execLitA1F s
  | .litA20 => Sys2Proof.Machine.execLitA20 s
  | .litA21 => Sys2Proof.Machine.execLitA21 s
  | .litA22 => Sys2Proof.Machine.execLitA22 s
  | .litA23 => Sys2Proof.Machine.execLitA23 s
  | .litA24 => Sys2Proof.Machine.execLitA24 s
  | .litA25 => Sys2Proof.Machine.execLitA25 s
  | .litA26 => Sys2Proof.Machine.execLitA26 s
  | .litA27 => Sys2Proof.Machine.execLitA27 s
  | .litA28 => Sys2Proof.Machine.execLitA28 s
  | .litA29 => Sys2Proof.Machine.execLitA29 s
  | .litA2A => Sys2Proof.Machine.execLitA2A s
  | .litA2B => Sys2Proof.Machine.execLitA2B s
  | .litA2C => Sys2Proof.Machine.execLitA2C s
  | .litA2D => Sys2Proof.Machine.execLitA2D s
  | .litA2E => Sys2Proof.Machine.execLitA2E s
  | .litA2F => Sys2Proof.Machine.execLitA2F s
  | .litA30 => Sys2Proof.Machine.execLitA30 s
  | .litA31 => Sys2Proof.Machine.execLitA31 s
  | .litA32 => Sys2Proof.Machine.execLitA32 s
  | .litA33 => Sys2Proof.Machine.execLitA33 s
  | .litA34 => Sys2Proof.Machine.execLitA34 s
  | .litA35 => Sys2Proof.Machine.execLitA35 s
  | .litA36 => Sys2Proof.Machine.execLitA36 s
  | .litA37 => Sys2Proof.Machine.execLitA37 s
  | .litA38 => Sys2Proof.Machine.execLitA38 s
  | .litA39 => Sys2Proof.Machine.execLitA39 s
  | .litA3A => Sys2Proof.Machine.execLitA3A s
  | .litA3B => Sys2Proof.Machine.execLitA3B s
  | .litA3C => Sys2Proof.Machine.execLitA3C s
  | .litA3D => Sys2Proof.Machine.execLitA3D s
  | .litA3E => Sys2Proof.Machine.execLitA3E s
  | .litA3F => Sys2Proof.Machine.execLitA3F s
  | .litA40 => Sys2Proof.Machine.execLitA40 s
  | .litA41 => Sys2Proof.Machine.execLitA41 s
  | .litA42 => Sys2Proof.Machine.execLitA42 s
  | .litA43 => Sys2Proof.Machine.execLitA43 s
  | .litA44 => Sys2Proof.Machine.execLitA44 s
  | .litA45 => Sys2Proof.Machine.execLitA45 s
  | .litA46 => Sys2Proof.Machine.execLitA46 s
  | .litA47 => Sys2Proof.Machine.execLitA47 s
  | .litA48 => Sys2Proof.Machine.execLitA48 s
  | .litA49 => Sys2Proof.Machine.execLitA49 s
  | .litA4A => Sys2Proof.Machine.execLitA4A s
  | .litA4B => Sys2Proof.Machine.execLitA4B s
  | .litA4C => Sys2Proof.Machine.execLitA4C s
  | .litA4D => Sys2Proof.Machine.execLitA4D s
  | .litA4E => Sys2Proof.Machine.execLitA4E s
  | .litA4F => Sys2Proof.Machine.execLitA4F s
  | .litA50 => Sys2Proof.Machine.execLitA50 s
  | .litA51 => Sys2Proof.Machine.execLitA51 s
  | .litA52 => Sys2Proof.Machine.execLitA52 s
  | .litA53 => Sys2Proof.Machine.execLitA53 s
  | .litA54 => Sys2Proof.Machine.execLitA54 s
  | .litA55 => Sys2Proof.Machine.execLitA55 s
  | .litA56 => Sys2Proof.Machine.execLitA56 s
  | .litA57 => Sys2Proof.Machine.execLitA57 s
  | .litA58 => Sys2Proof.Machine.execLitA58 s
  | .litA59 => Sys2Proof.Machine.execLitA59 s
  | .litA5A => Sys2Proof.Machine.execLitA5A s
  | .litA5B => Sys2Proof.Machine.execLitA5B s
  | .litA5C => Sys2Proof.Machine.execLitA5C s
  | .litA5D => Sys2Proof.Machine.execLitA5D s
  | .litA5E => Sys2Proof.Machine.execLitA5E s
  | .litA5F => Sys2Proof.Machine.execLitA5F s
  | .litA60 => Sys2Proof.Machine.execLitA60 s
  | .litA61 => Sys2Proof.Machine.execLitA61 s
  | .litA62 => Sys2Proof.Machine.execLitA62 s
  | .litA63 => Sys2Proof.Machine.execLitA63 s
  | .litA64 => Sys2Proof.Machine.execLitA64 s
  | .litA65 => Sys2Proof.Machine.execLitA65 s
  | .litA66 => Sys2Proof.Machine.execLitA66 s
  | .litA67 => Sys2Proof.Machine.execLitA67 s
  | .litA68 => Sys2Proof.Machine.execLitA68 s
  | .litA69 => Sys2Proof.Machine.execLitA69 s
  | .litA6A => Sys2Proof.Machine.execLitA6A s
  | .litA6B => Sys2Proof.Machine.execLitA6B s
  | .litA6C => Sys2Proof.Machine.execLitA6C s
  | .litA6D => Sys2Proof.Machine.execLitA6D s
  | .litA6E => Sys2Proof.Machine.execLitA6E s
  | .litA6F => Sys2Proof.Machine.execLitA6F s
  | .litA70 => Sys2Proof.Machine.execLitA70 s
  | .litA71 => Sys2Proof.Machine.execLitA71 s
  | .litA72 => Sys2Proof.Machine.execLitA72 s
  | .litA73 => Sys2Proof.Machine.execLitA73 s
  | .litA74 => Sys2Proof.Machine.execLitA74 s
  | .litA75 => Sys2Proof.Machine.execLitA75 s
  | .litA76 => Sys2Proof.Machine.execLitA76 s
  | .litA77 => Sys2Proof.Machine.execLitA77 s
  | .litA78 => Sys2Proof.Machine.execLitA78 s
  | .litA79 => Sys2Proof.Machine.execLitA79 s
  | .litA7A => Sys2Proof.Machine.execLitA7A s
  | .litA7B => Sys2Proof.Machine.execLitA7B s
  | .litA7C => Sys2Proof.Machine.execLitA7C s
  | .litA7D => Sys2Proof.Machine.execLitA7D s
  | .litA7E => Sys2Proof.Machine.execLitA7E s
  | .litA7F => Sys2Proof.Machine.execLitA7F s
  | .litA80 => Sys2Proof.Machine.execLitA80 s
  | .litA81 => Sys2Proof.Machine.execLitA81 s
  | .litA82 => Sys2Proof.Machine.execLitA82 s
  | .litA83 => Sys2Proof.Machine.execLitA83 s
  | .litA84 => Sys2Proof.Machine.execLitA84 s
  | .litA85 => Sys2Proof.Machine.execLitA85 s
  | .litA86 => Sys2Proof.Machine.execLitA86 s
  | .litA87 => Sys2Proof.Machine.execLitA87 s
  | .litA88 => Sys2Proof.Machine.execLitA88 s
  | .litA89 => Sys2Proof.Machine.execLitA89 s
  | .litA8A => Sys2Proof.Machine.execLitA8A s
  | .litA8B => Sys2Proof.Machine.execLitA8B s
  | .litA8C => Sys2Proof.Machine.execLitA8C s
  | .litA8D => Sys2Proof.Machine.execLitA8D s
  | .litA8E => Sys2Proof.Machine.execLitA8E s
  | .litA8F => Sys2Proof.Machine.execLitA8F s
  | .litA90 => Sys2Proof.Machine.execLitA90 s
  | .litA91 => Sys2Proof.Machine.execLitA91 s
  | .litA92 => Sys2Proof.Machine.execLitA92 s
  | .litA93 => Sys2Proof.Machine.execLitA93 s
  | .litA94 => Sys2Proof.Machine.execLitA94 s
  | .litA95 => Sys2Proof.Machine.execLitA95 s
  | .litA96 => Sys2Proof.Machine.execLitA96 s
  | .litA97 => Sys2Proof.Machine.execLitA97 s
  | .litA98 => Sys2Proof.Machine.execLitA98 s
  | .litA99 => Sys2Proof.Machine.execLitA99 s
  | .litA9A => Sys2Proof.Machine.execLitA9A s
  | .litA9B => Sys2Proof.Machine.execLitA9B s
  | .litA9C => Sys2Proof.Machine.execLitA9C s
  | .litA9D => Sys2Proof.Machine.execLitA9D s
  | .litA9E => Sys2Proof.Machine.execLitA9E s
  | .litA9F => Sys2Proof.Machine.execLitA9F s
  | .litAA0 => Sys2Proof.Machine.execLitAA0 s
  | .litAA1 => Sys2Proof.Machine.execLitAA1 s
  | .litAA2 => Sys2Proof.Machine.execLitAA2 s
  | .litAA3 => Sys2Proof.Machine.execLitAA3 s
  | .litAA4 => Sys2Proof.Machine.execLitAA4 s
  | .litAA5 => Sys2Proof.Machine.execLitAA5 s
  | .litAA6 => Sys2Proof.Machine.execLitAA6 s
  | .litAA7 => Sys2Proof.Machine.execLitAA7 s
  | .litAA8 => Sys2Proof.Machine.execLitAA8 s
  | .litAA9 => Sys2Proof.Machine.execLitAA9 s
  | .litAAA => Sys2Proof.Machine.execLitAAA s
  | .litAAB => Sys2Proof.Machine.execLitAAB s
  | .litAAC => Sys2Proof.Machine.execLitAAC s
  | .litAAD => Sys2Proof.Machine.execLitAAD s
  | .litAAE => Sys2Proof.Machine.execLitAAE s
  | .litAAF => Sys2Proof.Machine.execLitAAF s
  | .litAB0 => Sys2Proof.Machine.execLitAB0 s
  | .litAB1 => Sys2Proof.Machine.execLitAB1 s
  | .litAB2 => Sys2Proof.Machine.execLitAB2 s
  | .litAB3 => Sys2Proof.Machine.execLitAB3 s
  | .litAB4 => Sys2Proof.Machine.execLitAB4 s
  | .litAB5 => Sys2Proof.Machine.execLitAB5 s
  | .litAB6 => Sys2Proof.Machine.execLitAB6 s
  | .litAB7 => Sys2Proof.Machine.execLitAB7 s
  | .litAB8 => Sys2Proof.Machine.execLitAB8 s
  | .litAB9 => Sys2Proof.Machine.execLitAB9 s
  | .litABA => Sys2Proof.Machine.execLitABA s
  | .litABB => Sys2Proof.Machine.execLitABB s
  | .litABC => Sys2Proof.Machine.execLitABC s
  | .litABD => Sys2Proof.Machine.execLitABD s
  | .litABE => Sys2Proof.Machine.execLitABE s
  | .litABF => Sys2Proof.Machine.execLitABF s
  | .litAC0 => Sys2Proof.Machine.execLitAC0 s
  | .litAC1 => Sys2Proof.Machine.execLitAC1 s
  | .litAC2 => Sys2Proof.Machine.execLitAC2 s
  | .litAC3 => Sys2Proof.Machine.execLitAC3 s
  | .litAC4 => Sys2Proof.Machine.execLitAC4 s
  | .litAC5 => Sys2Proof.Machine.execLitAC5 s
  | .litAC6 => Sys2Proof.Machine.execLitAC6 s
  | .litAC7 => Sys2Proof.Machine.execLitAC7 s
  | .litAC8 => Sys2Proof.Machine.execLitAC8 s
  | .litAC9 => Sys2Proof.Machine.execLitAC9 s
  | .litACA => Sys2Proof.Machine.execLitACA s
  | .litACB => Sys2Proof.Machine.execLitACB s
  | .litACC => Sys2Proof.Machine.execLitACC s
  | .litACD => Sys2Proof.Machine.execLitACD s
  | .litACE => Sys2Proof.Machine.execLitACE s
  | .litACF => Sys2Proof.Machine.execLitACF s
  | .litAD0 => Sys2Proof.Machine.execLitAD0 s
  | .litAD1 => Sys2Proof.Machine.execLitAD1 s
  | .litAD2 => Sys2Proof.Machine.execLitAD2 s
  | .litAD3 => Sys2Proof.Machine.execLitAD3 s
  | .litAD4 => Sys2Proof.Machine.execLitAD4 s
  | .litAD5 => Sys2Proof.Machine.execLitAD5 s
  | .litAD6 => Sys2Proof.Machine.execLitAD6 s
  | .litAD7 => Sys2Proof.Machine.execLitAD7 s
  | .litAD8 => Sys2Proof.Machine.execLitAD8 s
  | .litAD9 => Sys2Proof.Machine.execLitAD9 s
  | .litADA => Sys2Proof.Machine.execLitADA s
  | .litADB => Sys2Proof.Machine.execLitADB s
  | .litADC => Sys2Proof.Machine.execLitADC s
  | .litADD => Sys2Proof.Machine.execLitADD s
  | .litADE => Sys2Proof.Machine.execLitADE s
  | .litADF => Sys2Proof.Machine.execLitADF s
  | .litAE0 => Sys2Proof.Machine.execLitAE0 s
  | .litAE1 => Sys2Proof.Machine.execLitAE1 s
  | .litAE2 => Sys2Proof.Machine.execLitAE2 s
  | .litAE3 => Sys2Proof.Machine.execLitAE3 s
  | .litAE4 => Sys2Proof.Machine.execLitAE4 s
  | .litAE5 => Sys2Proof.Machine.execLitAE5 s
  | .litAE6 => Sys2Proof.Machine.execLitAE6 s
  | .litAE7 => Sys2Proof.Machine.execLitAE7 s
  | .litAE8 => Sys2Proof.Machine.execLitAE8 s
  | .litAE9 => Sys2Proof.Machine.execLitAE9 s
  | .litAEA => Sys2Proof.Machine.execLitAEA s
  | .litAEB => Sys2Proof.Machine.execLitAEB s
  | .litAEC => Sys2Proof.Machine.execLitAEC s
  | .litAED => Sys2Proof.Machine.execLitAED s
  | .litAEE => Sys2Proof.Machine.execLitAEE s
  | .litAEF => Sys2Proof.Machine.execLitAEF s
  | .litAF0 => Sys2Proof.Machine.execLitAF0 s
  | .litAF1 => Sys2Proof.Machine.execLitAF1 s
  | .litAF2 => Sys2Proof.Machine.execLitAF2 s
  | .litAF3 => Sys2Proof.Machine.execLitAF3 s
  | .litAF4 => Sys2Proof.Machine.execLitAF4 s
  | .litAF5 => Sys2Proof.Machine.execLitAF5 s
  | .litAF6 => Sys2Proof.Machine.execLitAF6 s
  | .litAF7 => Sys2Proof.Machine.execLitAF7 s
  | .litAF8 => Sys2Proof.Machine.execLitAF8 s
  | .litAF9 => Sys2Proof.Machine.execLitAF9 s
  | .litAFA => Sys2Proof.Machine.execLitAFA s
  | .litAFB => Sys2Proof.Machine.execLitAFB s
  | .litAFC => Sys2Proof.Machine.execLitAFC s
  | .litAFD => Sys2Proof.Machine.execLitAFD s
  | .litAFE => Sys2Proof.Machine.execLitAFE s
  | .litAFF => Sys2Proof.Machine.execLitAFF s

end Sys2Proof.Machine
end

