-- ==== Sys2Proof/Machine/Step.lean ====
section
/-! DEFINITION. The step: fetch, then execute (log entry 1). -/

namespace Sys2Proof.Machine

/-- One step of the block: one host command, or the header or one token part of a running `X.PUSH`. An idle block stays
as it is (R20); a token that lacks input ends its push suspended (R213). -/
def step (s : State) : Host.Outcome State Fault Refusal :=
  match fetch s with
  | .idle => .next s
  | .instr i t => exec i t
  | .starved t => suspendPush t
  | .stop r => .refused r

/-- The state whose next step fetches a table word (log entries 2 and 8). -/
def State.withFetchWord (s : State) (nbits w : Nat) : State := s.placeWord nbits w

end Sys2Proof.Machine
end

