-- ==== Sys2Proof/Safety.lean ====
section
/-! DEFINITION. The terms the claims use: the bits a reader holds (42_explode_decode.md rule R181), the invariant of the
block, which unit an instruction belongs to, a host's session with a unit (00_scope.md rule R18), what a whole stream
stands for (43_explode_engine.md rule R218), and what a byte sequence is compressed to (45_implode_emit.md rule R264). -/

namespace Sys2Proof

/-! ### The bit reader -/

/-- The invariant of R181, parts (a) and (b): 0 to 7 extra bits, and nothing above the valid bits. -/
def BitReader.wf (r : BitReader) : Bool :=
  decide (r.extraBits.toNat ≤ 7) && decide (r.bitBuffer.toNat < 2 ^ (8 + r.extraBits.toNat))

/-- The bits from the cursor on, loaded or waiting, as one number, the next bit lowest (R31, R74). -/
def BitReader.bits (r : BitReader) : Nat := r.bitBuffer.toNat + bytesToNat r.input <<< (8 + r.extraBits.toNat)

/-- How many there are: `8 + extraBits` in `bitBuffer` (R29) and 8 in each waiting byte. -/
def BitReader.avail (r : BitReader) : Nat := 8 + r.extraBits.toNat + 8 * r.input.length

/-- The decode tables as the block builds them from the Static Code Tables (R163, R166, R343). -/
def DecodeTables.ready (k : CodeTables) (t : DecodeTables) (sp : Space) : Bool :=
  t.lengthCodes == lengthCodesOf k && t.distPosCodes == distPosCodesOf k &&
    (sp != .token .ascii || t.ascii == some (asciiTablesOf k))

/-- One bit pattern and then another, in stream order. -/
def Code.followedBy (a b : Code) : Code := ⟨a.width + b.width, a.bits + b.bits <<< a.width⟩

/-- A code space of the token stream: a token boundary, or the distance part that follows a length part, with the
repeat lengths a length part gives (R111). -/
def Space.inStream : Space → Bool
  | .token _ => true
  | .distance n d mask => decide (2 ≤ n) && decide (n ≤ 0x206) && mask == d.distMask
  | .header => false
  | .host => false

namespace Machine

/-! ### The buffer -/

/-- `b'` is `b` after `s` was appended (R142): the contents grow by `s`; if it fitted after `end`, every other byte of
the heap reads as before and the window only moves its end; else the heap is laid out anew, exactly fitting. -/
structure Buffer.Grew (b : Buffer) (s : List Byte) (b' : Buffer) : Prop where
  contents : b'.contents = b.contents ++ s
  saved : b'.saved = b.saved
  inPlace : b.stop + s.length ≤ b.capacity →
    b'.start = b.start ∧ b'.stop = b.stop + s.length ∧ b'.capacity = b.capacity ∧
      ∀ a, a < b.stop ∨ b.stop + s.length ≤ a → b'.heap.read a = b.heap.read a
  relaid : b.capacity < b.stop + s.length →
    b'.start = 0 ∧ b'.stop = b.size + s.length ∧ b'.capacity = b.size + s.length

/-! ### The invariant -/

/-- What holds of an EXPLODE unit after every step, with the Static Code Tables `k`. -/
structure XUnit.Inv (k : CodeTables) (x : XUnit) : Prop where
  inBufWf : x.inBuf.wf = true
  outBufWf : x.outBuf.wf = true
  /-- R181 -/
  readerWf : x.reader.wf = true
  /-- R24 -/
  geometry : x.distMask = x.dictBits.distMask ∧ x.window = x.dictBits.window
  /-- R32 -/
  flags : x.flagsAgree = true
  /-- R32, with its exception for an error raised before the header was parsed -/
  header : (x.headerParsed = true → x.xstate ≠ .awaitingHeader) ∧
    (x.headerParsed = false → x.xstate = .awaitingHeader ∨ x.xstate = .error)
  /-- R301, R306 -/
  error : (x.err = .none ↔ x.xstate ≠ .error) ∧ x.err ≠ .invalidData
  /-- R343 -/
  denseTables : x.tables.lengthCodes = lengthCodesOf k ∧ x.tables.distPosCodes = distPosCodesOf k
  /-- R343 -/
  asciiTables : x.mode = .ascii → x.xstate = .decoding ∨ x.xstate = .suspended →
    x.tables.ascii = some (asciiTablesOf k)
  /-- no output before the header is parsed (R307) -/
  noOutput : x.xstate = .awaitingHeader → x.outBuf.size = 0
  /-- between the two parts of a COPY the unit is decoding, the length is one the format has (R111), and the token can
  be undone (R209) -/
  midCopy : ∀ n, x.repeatLength = some n → x.xstate = .decoding ∧ 2 ≤ n ∧ n ≤ 0x206 ∧
    ∃ x', x.restore = .next x' ∧ x'.inBuf.wf = true ∧ x'.reader.wf = true

/-- The last byte of `outBuf` is the byte being filled: its bits from `outBits` up are zero (R39). -/
def IUnit.Packed (i : IUnit) : Prop := ∃ b, i.outBuf.contents.getLast? = some b ∧ b.toNat < 2 ^ i.outBits.toNat

/-- What holds of an IMPLODE unit that is taking input, with the Static Code Tables `k`. -/
structure IUnit.Encoding (k : CodeTables) (i : IUnit) : Prop where
  live : i.live = true
  /-- R39 -/
  packed : i.Packed
  /-- R43 -/
  tables : i.literalBits = literalBitsTable k i.mode ∧ i.literalCodes = literalCodesTable k i.mode
  /-- R24 -/
  geometry : i.distMask = i.dictBits.distMask ∧ i.window = i.dictBits.window
  /-- R40 -/
  cursor : i.cursor ≤ i.inBuf.size ∧ i.cursor < i.window.toNat
  /-- R236 -/
  firstTwo : i.handledFirstTwoBytes = false → i.cursor = 0
  inBufWf : i.inBuf.wf = true
  outBufWf : i.outBuf.wf = true

/-- What holds of an IMPLODE unit after every step. -/
structure IUnit.Inv (k : CodeTables) (i : IUnit) : Prop where
  inBufWf : i.inBuf.wf = true
  outBufWf : i.outBuf.wf = true
  /-- R24 -/
  geometry : i.distMask = i.dictBits.distMask ∧ i.window = i.dictBits.window
  /-- R42 -/
  settled : i.live = true → i.istate ≠ .setup ∧ i.istate ≠ .flushing
  /-- R301, R306, R308 -/
  error : (i.err = .none ↔ i.istate ≠ .error) ∧
    (i.err = .none ∨ i.err = .invalidCompressionType ∨ i.err = .invalidDictionarySize)
  accumulating : i.istate = .accumulating → i.Encoding k ∧ i.streamEnded = false

/-- What holds of the block after every step. -/
structure State.Inv (s : State) : Prop where
  /-- R9, R119 -/
  cfg : s.cfg.legal = true
  x : s.x.Inv s.cfg.tables
  i : s.i.Inv s.cfg.tables
  /-- "`err ≠ 0` exactly when `status = ERROR`" (R301), and no rule raises `InvalidData` (R306) -/
  responses : ∀ r ∈ s.responses, (r.err = .none ↔ r.status ≠ .error) ∧ r.err ≠ .invalidData

/-- The block after `raise K` in the EXPLODE unit (R307): the code in `err`, everything decoded and not yet delivered
handed out with the answer, the unit in Error. -/
def State.raisedX (s : State) (k : ErrorCode) : State :=
  ({ s with x := { s.x with
    err := k, outBuf := s.x.outBuf.clear, xstate := .error, needMoreInput := false, repeatLength := none } } :
      State).respond ⟨.error, k, s.x.outBuf.contents⟩

/-- Where the next bit goes, counted from bit 0 of the first byte of `outBuf` (R250). -/
def IUnit.position (i : IUnit) : Nat := 8 * (i.outBuf.size - 1) + i.outBits.toNat

/-! ### Progress -/

/-- The bits the EXPLODE unit holds beyond the current byte: each part of a token that it decodes uses some up (R206). -/
def XUnit.pendingBits (x : XUnit) : Nat := 8 * x.inBuf.size + x.extraBits.toNat

/-- The rounds a scan can still take: the unscanned bytes, and the round that only sets the flag (R260). -/
def IUnit.pendingRounds (i : IUnit) : Nat := i.inBuf.size - i.cursor + (if i.handledFirstTwoBytes then 0 else 1)

/-! ### Whose instruction it is -/

/-- The commands of the IMPLODE unit: bit 2 of the command word is set (R117). Every other instruction is the EXPLODE
unit's. -/
def forImplode (i : Instr) : Bool :=
  match i.shape with
  | .command c => c.word.getLsbD 2
  | _ => false

/-! ### A host's session (R18, R218, R264, R344) -/

/-- `X.RESET`, `X.PUSH` of each chunk, `X.FINISH`. -/
def explodeSession (chunks : List (List Byte)) : List HostCommand :=
  ⟨0, []⟩ :: chunks.map (fun c => ⟨1, c⟩) ++ [⟨2, []⟩]

/-- `I.RESET(m, d)`, `I.PUSH` of each chunk, `I.FINISH`. -/
def implodeSession (mode : CompressionMode) (dict : DictionarySize) (chunks : List (List Byte)) : List HostCommand :=
  ⟨4, [mode.toByte, dict.toByte]⟩ :: chunks.map (fun c => ⟨5, c⟩) ++ [⟨6, []⟩]

/-- The block, built with given parameters and from reset, runs the host's commands to the end: it comes to rest having
answered every one, the outputs concatenated are `out` (R19), and the last answer has this status and code. -/
def Answers (cfg : Config) (commands : List HostCommand) (out : List Byte) (status : Status) (err : ErrorCode) : Prop :=
  ∃ n t, Host.Core.run Sys2Proof.core n { State.resetWith cfg with host := commands } = .next t ∧
    fetch t = .idle ∧ t.responses.length = commands.length ∧ t.responses.flatMap (fun r => r.out) = out ∧
    t.responses.getLast?.map (fun r => (r.status, r.err)) = some (status, err)

/-! ### What a whole stream stands for (R218, R219)

`explode` of a whole stream, on the bytes themselves: no commands, no buffers, no suspension. -/

/-- The decode loop (R206) over a stream that is all there, from a token boundary, with what it has put out so far. Each
round reads one literal, one whole COPY or END; where the stream lacks the rest of a token, `X.FINISH` finds it so and
aborts (R216). What the decoder never reads at a token boundary counts as lacking too. `fuel` bounds the rounds. -/
def explodeTokens (k : CodeTables) (t : DecodeTables) (mode : CompressionMode) (dict : DictionarySize) :
    Nat → BitReader → List Byte → List Byte × Status × ErrorCode
  | 0, _, out => (out, .error, .aborted)
  | fuel + 1, r, out =>
    match decode k t (.token mode) r with
    | .instr token r =>
      match token.shape with
      | .literalBinary b => explodeTokens k t mode dict fuel r (out ++ [b])
      | .literalAscii b => explodeTokens k t mode dict fuel r (out ++ [b])
      | .length c e =>
        let n := repeatLengthOf (lengthToken k c e)
        match decode k t (.distance n dict dict.distMask) r with
        | .instr part r =>
          match part.shape with
          | .distance p low =>
            let d := trueDistance n dict p low.toNat
            if out.length < d then (out, .error, .distanceBeyondHistory)
            else
              explodeTokens k t mode dict fuel r
                (out ++ (List.range n).map fun j => out.getD (out.length - d + j % d) 0)
          | _ => (out, .error, .aborted)
        | _ => (out, .error, .aborted)
      | .endOfStream => (out, .done, .none)
      | _ => (out, .error, .aborted)
    | _ => (out, .error, .aborted)

/-- The output of a stream and the status and code of its last answer (R218): `Aborted` with no output for fewer than 4
bytes (R204, R216), the header's errors, byte 0 first (R302, R303, R310), else what its tokens give from bit 0 of byte 2
on (R103). Every token takes at least one bit, so there are no more rounds than bits. -/
def explodeSummary (k : CodeTables) (stream : List Byte) : List Byte × Status × ErrorCode :=
  match stream with
  | m :: d :: seed :: next :: rest =>
    match CompressionMode.ofByte m with
    | none => ([], .error, .invalidCompressionType)
    | some mode =>
      match DictionarySize.ofByte d with
      | none => ([], .error, .invalidDictionarySize)
      | some dict =>
        explodeTokens k ((DecodeTables.built k).withAscii k) mode dict (8 * stream.length)
          ⟨seed.setWidth 16, 0, next :: rest⟩ []
  | _ => ([], .error, .aborted)

/-! ### What a byte sequence is compressed to (R264)

The compressor on the bytes themselves: no commands, no buffers, no lookahead hold. Its bits are those of the encodings
the decoder reads (30_encoding.md), not those of the encode tables. -/

/-- A token of a compressed stream (R118); a COPY has its length and the stored distance `D` (R238). -/
inductive Token where
  | literal (b : Byte)
  | copy (size d : Nat)
deriving DecidableEq, Repr

/-- How many bytes of the input a token stands for. -/
def Token.size : Token → Nat
  | .literal _ => 1
  | .copy size _ => size

/-- The token at the cursor of a history and its lookahead (R240); `b` is the byte there. -/
def tokenAt (bytes : List Byte) (cursor : Nat) (b : Byte) : Token :=
  let m := findRepetitions bytes cursor
  if flushable m.1 m.2 then .copy m.1 m.2 else .literal b

/-- `toks(B)` (R264): the scan from a cursor on, with every byte there and `W` bytes dropped whenever the cursor has
reached `W` (R258). Each round takes at least one byte, so `fuel` need be no more than there are bytes. -/
def tokensOf (window : Nat) : Nat → List Byte → Nat → List Token
  | 0, _, _ => []
  | fuel + 1, bytes, cursor =>
    match bytes[cursor]? with
    | none => []
    | some b =>
      let token := tokenAt bytes cursor b
      let next := cursor + token.size
      token ::
        if window ≤ next then tokensOf window fuel (bytes.drop window) (next - window)
        else tokensOf window fuel bytes next

/-- The length code of a match: the one whose family holds the length (R107, R110). -/
def lengthCodeOf (k : CodeTables) (size : Nat) : Nat :=
  ((List.range 16).find? fun c =>
    decide (k.lenBase.getD c 0 ≤ size - 2) && decide (size - 2 < k.lenBase.getD c 0 + 2 ^ k.exLenBits.getD c 0)).getD 0

/-- The bits of a token: the encoding of a literal (R105, R106), or of a length part (R107) and then of a distance part
(R108), with the distance split as R255 splits it. -/
def Token.code (k : CodeTables) (mode : CompressionMode) (dict : DictionarySize) : Token → Code
  | .literal b =>
    encode k (.token mode)
      (match mode with
        | .binary => .litB b
        | .ascii => asciiLiteral b)
  | .copy size d =>
    let c := lengthCodeOf k size
    let w := lowWidth size dict
    (encode k (.token mode) (lengthPart c (size - 2 - k.lenBase.getD c 0))).followedBy
      (encode k (.distance size dict dict.distMask) (distancePart (d / 2 ^ w) (BitVec.ofNat 6 (d % 2 ^ w))))

/-- `pack(m, d, T)` (R264): the two header bytes, then from a fresh byte on the bits of the tokens and of END, low bit
first, in as many bytes as they need and, where they end byte-aligned, one more (R253): `n` bits take `n / 8 + 1` bytes. -/
def pack (k : CodeTables) (mode : CompressionMode) (dict : DictionarySize) (tokens : List Token) : List Byte :=
  let all := (tokens.map (Token.code k mode dict)).foldr Code.followedBy (encode k (.token mode) .endToken)
  mode.toByte :: dict.toByte :: (List.range (all.width / 8 + 1)).map fun n => BitVec.ofNat 8 (all.bits >>> (8 * n))

/-- What the outputs of a compression are, concatenated (R264): `pack(m, d, toks(B))`. -/
def implodeSummary (k : CodeTables) (mode : CompressionMode) (dict : DictionarySize) (bytes : List Byte) : List Byte :=
  pack k mode dict (tokensOf dict.window.toNat bytes.length bytes 0)

end Machine

end Sys2Proof
end

