-- ==== Sys2Proof/Certificates/Slice0/Obligations.lean ====
section
/-! DEFINITION. The statements for the provers. Each docstring names the rules of spec/ it rests on. -/

section

open Sys2Proof Sys2Proof.Machine

/-! ### Reset and the invariant -/

/-- After reset the EXPLODE unit has the values R47 gives (its unspecified registers are not mentioned), and the IMPLODE
unit has not been reset (R49; that the block starts so is log entry 3's choice). The buffers are new ones of capacity 0, where
R47 also allows a pre-sized one: log entry 17's choice, after the spec's decision D26. The tables are those of the default
constants (log entry 5). -/
def Obligations.ResetState : Prop :=
  State.reset.x.live = true ∧ State.reset.x.xstate = .awaitingHeader ∧
  State.reset.x.inBuf = Buffer.new ∧ State.reset.x.outBuf = Buffer.new ∧
  State.reset.x.headerParsed = false ∧ State.reset.x.endOfStream = false ∧ State.reset.x.needMoreInput = false ∧
  State.reset.x.snap = none ∧ State.reset.x.err = .none ∧
  State.reset.x.tables.lengthCodes = generateDecodeTables 256 Rom.lenCode Rom.lenBits ∧
  State.reset.x.tables.distPosCodes = generateDecodeTables 256 Rom.distCode Rom.distBits ∧
  State.reset.x.tables.ascii = none ∧ State.reset.i.live = false

/-- The invariant holds at reset, with the default parameters and with any legal ones (R9, R119). Its clauses on masks and
windows rest there on the values that log entry 4 chose, `cfg.legal` on log entries 5 and 6, and the IMPLODE unit that was
never reset on log entry 3. -/
def Obligations.ResetInv : Prop :=
  State.reset.Inv ∧ State.resetWith Config.standard = State.reset ∧
    ∀ cfg : Config, cfg.legal = true → (State.resetWith cfg).Inv

/-- Every step keeps the invariant: buffers in canonical form with a value in every byte of the window (R25, R26), the
reader's invariant (R181), masks and windows that fit the dictionary size (R24), flags that agree with the state (R32),
`err` set exactly in Error (R301, R306), tables ready (R343), a COPY that can be undone (R209), the compressor's last
byte the one being filled (R39) and its cursor below `W` (R40). Before a unit's first header or `I.RESET` the clause on
masks rests on the values log entry 4 chose. -/
def Obligations.StepKeepsInv : Prop := ∀ s t : State, s.Inv → step s = .next t → t.Inv

/-! ### Fetch and decode -/

/-- A step runs the instruction the fetch decodes: from the stream while a push runs, with `backup()` at a token boundary
(R206, R208) and the consumed bits gone (R183); else from the host's queue. A token that lacks input ends its push
(R213); an idle block stays as it is (R20). That one step is one host command, one header or one token part is log entry
1's DESIGN CHOICE, and that commands wait in a queue log entry 2's: the spec's atomic transition is a whole command. -/
def Obligations.StepRunsDecoded : Prop :=
  (∀ (s : State) (sp : Space) (i : Instr) (r : BitReader), s.x.space? = some sp →
    decode s.cfg.tables s.x.tables sp s.x.reader = .instr i r → step s = exec i { s with x := (s.x.atBoundary sp).commit r }) ∧
  (∀ (s : State) (sp : Space) (r : BitReader), s.x.space? = some sp →
    decode s.cfg.tables s.x.tables sp s.x.reader = .needMoreInput r →
      step s = suspendPush { s with x := (s.x.atBoundary sp).commit r }) ∧
  (∀ (s : State) (c : HostCommand) (rest : List HostCommand) (i : Instr), s.x.space? = none → s.host = c :: rest →
    decodeCommand c = .ok i → step s = exec i { s with host := rest }) ∧
  (∀ s : State, s.x.space? = none → s.host = [] → step s = .next s)

/-- A few words written out from the encodings of R101 and R105 to R109 (R124, R195), with the default tables, decode to
what they stand for. -/
def Obligations.DecodeWords : Prop :=
  let k := CodeTables.standard
  let t := DecodeTables.built k
  decode k t .header ⟨0, 0, [0x00, 0x04, 0x82, 0x24]⟩
    = .instr (.header 0x00 0x04 0x82) ⟨0, 0, [0x00, 0x04, 0x82, 0x24]⟩ ∧
  decode k t (.token .binary) ⟨0x0082, 0, [0x24, 0x25]⟩ = .instr (.litB 0x41) ⟨0x1292, 7, []⟩ ∧
  decode k (t.withAscii k) (.token .ascii) ⟨0x001E, 0, [0x00]⟩ = .instr .litA20 ⟨0x0000, 3, []⟩ ∧
  decode k t (.token .binary) ⟨0x23C9, 6, [0x80, 0x7F]⟩ = .instr (.len8 1) ⟨0x4047, 7, [0x7F]⟩ ∧
  decode k t (.distance 11 .small 0x0F) ⟨0x4047, 7, [0x7F]⟩ = .instr (.dist0 1) ⟨0x0101, 1, [0x7F]⟩ ∧
  decode k t (.token .binary) ⟨0x0101, 1, [0x7F]⟩ = .instr .endToken ⟨0x00FF, 1, []⟩ ∧
  decodeCommand ⟨0b100, [0x00, 0x04]⟩ = .ok (.iReset 0x00 0x04)

/-- Decode after encode, for any legal Static Code Tables: where the next bits are the encoding of a well-formed token part
(R105 to R109) and enough bits follow (R193), the decoder reads that part, and it has consumed exactly its bits. -/
def Obligations.DecodeEncode : Prop :=
  ∀ (k : CodeTables) (t : DecodeTables) (sp : Space) (i : Instr) (r : BitReader), k.legal = true → sp.inStream = true →
    t.ready k sp = true → wellFormed k sp i = true → r.wf = true →
    r.bits % 2 ^ (encode k sp i).width = (encode k sp i).bits →
    (encode k sp i).width + (if i = .endToken then 0 else 8) ≤ r.avail →
    ∃ r', decode k t sp r = .instr i r' ∧
      (i ≠ .endToken → r'.wf = true ∧ r'.bits = r.bits / 2 ^ (encode k sp i).width ∧
        r'.avail = r.avail - (encode k sp i).width)

/-- The converse, for legal tables whose dense tables have no slot unwritten, as the defaults have none (R163): what the
decoder reads is well formed, its encoding is what the stream holds at the cursor, and it is read only when the bytes R193
asks for are there. -/
def Obligations.DecodeSound : Prop :=
  ∀ (k : CodeTables) (t : DecodeTables) (sp : Space) (i : Instr) (r r' : BitReader), k.legal = true →
    k.complete = true → sp.inStream = true → t.ready k sp = true → r.wf = true → decode k t sp r = .instr i r' →
    wellFormed k sp i = true ∧ r.bits % 2 ^ (encode k sp i).width = (encode k sp i).bits ∧
      (encode k sp i).width + (if i = .endToken then 0 else 8) ≤ r.avail

/-- Token decoding is total (R116, R170), for any legal tables: no bit pattern makes the decoder read a table entry that
construction did not fill. -/
def Obligations.DecodeTotal : Prop :=
  ∀ (k : CodeTables) (t : DecodeTables) (sp : Space) (r : BitReader), k.legal = true → sp.inStream = true →
    t.ready k sp = true → r.wf = true → decode k t sp r ≠ .unfilledEntry

/-- What a token decodes to does not depend on what follows it (R194): with more bytes waiting it decodes to the same
instruction, and, END apart, leaves the same rest with the same bytes more. -/
def Obligations.DecodeMoreInput : Prop :=
  ∀ (k : CodeTables) (t : DecodeTables) (sp : Space) (i : Instr) (r r' : BitReader) (more : List Byte),
    k.legal = true → decode k t sp r = .instr i r' →
    ∃ q, decode k t sp { r with input := r.input ++ more } = .instr i q ∧
      (i ≠ .endToken → q = { r' with input := r'.input ++ more })

/-- `wasteBits(n)` fails exactly when `n` exceeds the extra bits and no byte waits; else it consumes the next `n` bits and
keeps the reader's invariant (R183, R181). -/
def Obligations.WasteBits : Prop :=
  ∀ (r : BitReader) (n : Nat), r.wf = true → 1 ≤ n → n ≤ 8 →
    (r.wasteBits n = none ↔ r.extraBits.toNat < n ∧ r.input = []) ∧
    ∀ r', r.wasteBits n = some r' → r'.wf = true ∧ r'.bits = r.bits / 2 ^ n ∧ r'.avail + n = r.avail

/-- `peek(n)` is the next `n` stream bits, first bit least significant (R182, R74, R75). -/
def Obligations.Peek : Prop := ∀ (r : BitReader) (n : Nat), n ≤ 8 → r.peek n = r.bits % 2 ^ n

/-- The host's command words decode to their commands, and nothing else does (R117; operands of another shape are
refused, log entry 9). The header is read where 4 bytes are buffered (R204), and is the first three of them (R101). -/
def Obligations.CommandAndHeaderWords : Prop :=
  (∀ (c : HostCommand) (i : Instr), decodeCommand c = .ok i ↔ i.shape = .command c) ∧
  (∀ (k : CodeTables) (t : DecodeTables) (r r' : BitReader) (i : Instr), decode k t .header r = .instr i r' ↔
    r' = r ∧ ∃ m d seed next rest, r.input = m :: d :: seed :: next :: rest ∧ i = .header m d seed)

/-- A reserved command word (`cmd = 3`) is refused (R117, R300). -/
def Obligations.ReservedCommand : Prop :=
  ∀ (s : State) (c : HostCommand) (rest : List HostCommand), s.x.space? = none → s.host = c :: rest →
    c.word = 0b011 ∨ c.word = 0b111 → step s = .refused .reservedCommand

/-! ### Tables -/

/-- `populate` writes the positions `start, start + 2^w, ...` of the table and no other (R160, R166). -/
def Obligations.PopulateStride : Prop :=
  ∀ (table : List Nat) (start w v p : Nat), p < table.length →
    (populate table start w v).length = table.length ∧
    (populate table start w v)[p]? =
      if start ≤ p ∧ 2 ^ w ∣ p - start then some v else table[p]?

/-- The dense tables that a unit builds from legal Static Code Tables answer, for each 8-bit index, the code whose bits the
index begins with (R163, R34); with no slot unwritten, that code alone. The default tables are legal and leave none (R119,
R163, R170). -/
def Obligations.DenseTables : Prop :=
  (∀ k : CodeTables, k.legal = true →
    (∀ x : Fin 256, ∀ c : Fin 16, x.val % 2 ^ k.lenBits.getD c.val 0 = k.lenCode.getD c.val 0 →
      (lengthCodesOf k)[x.val]? = some c.val) ∧
    (∀ x : Fin 256, ∀ p : Fin 64, x.val % 2 ^ k.distBits.getD p.val 0 = k.distCode.getD p.val 0 →
      (distPosCodesOf k)[x.val]? = some p.val) ∧
    (k.complete = true → ∀ x : Fin 256,
      (∀ c : Fin 16, (lengthCodesOf k)[x.val]? = some c.val →
        x.val % 2 ^ k.lenBits.getD c.val 0 = k.lenCode.getD c.val 0) ∧
      (∀ p : Fin 64, (distPosCodesOf k)[x.val]? = some p.val →
        x.val % 2 ^ k.distBits.getD p.val 0 = k.distCode.getD p.val 0))) ∧
  CodeTables.standard.legal = true ∧ CodeTables.standard.complete = true

/-- The encode tables hold, at each token number, the width and pattern of that token's encoding (R232 to R234, R257,
with R105 to R107 and R109); of END, with the default tables, 16 and 0xFF01 (R256). -/
def Obligations.EncodeTables : Prop :=
  ∀ (k : CodeTables) (mode : CompressionMode), k.legal = true →
    (literalBitsTable k mode).length = nSymbols ∧ (literalCodesTable k mode).length = nSymbols ∧
    (∀ b : Byte,
      let code := encode k (.token mode) (match mode with | .binary => .litB b | .ascii => asciiLiteral b)
      (literalBitsTable k mode)[b.toNat]? = some code.width ∧ (literalCodesTable k mode)[b.toNat]? = some code.bits) ∧
    (∀ c e : Nat, wellFormed k (.token mode) (lengthPart c e) = true → c < 16 → e < 2 ^ k.exLenBits.getD c 0 →
      let code := encode k (.token mode) (lengthPart c e)
      (literalBitsTable k mode)[lengthToken k c e]? = some code.width ∧
      (literalCodesTable k mode)[lengthToken k c e]? = some code.bits) ∧
    (let code := encode k (.token mode) .endToken
     (literalBitsTable k mode)[endTokenNumber]? = some code.width ∧
     (literalCodesTable k mode)[endTokenNumber]? = some code.bits ∧
     (k.values = TableValues.standard → code = ⟨16, 0xFF01⟩))

/-! ### The buffer -/

/-- `append` (R142): in place when it fits after `end`, else an exactly fitting new heap; the contents grow by the bytes;
`saved` stays. -/
def Obligations.BufferAppend : Prop :=
  ∀ (b : Buffer) (s : List Byte), b.wf = true → b.Grew s (b.append s)

/-- The hard deletes `flushStart` (R146) and `flushEnd` (R147), with the operand clamped to `[0, capacity]`: 0 and every
negative operand change nothing. `flushStart` takes the first bytes of the contents away, lays the rest down from offset 0
and leaves the bytes from the new `end` on; `flushEnd` takes the last ones away and moves nothing; the capacity and `saved`
stay. More than `size()` is refused (R156). -/
def Obligations.BufferHardDeletes : Prop :=
  ∀ (b : Buffer) (n : Int) (k : Nat), b.wf = true → (k : Int) = min (max n 0) (b.capacity : Int) →
    (k = 0 → b.flushStart n = .next b ∧ b.flushEnd n = .next b) ∧
    (0 < k → k ≤ b.size →
      (∃ b', b.flushStart n = .next b' ∧ b'.start = 0 ∧ b'.stop = b.stop - b.start - k ∧
        b'.capacity = b.capacity ∧ b'.saved = b.saved ∧ b'.contents = b.contents.drop k ∧
        ∀ a, b'.stop ≤ a → b'.heap.read a = b.heap.read a) ∧
      ∃ b', b.flushEnd n = .next b' ∧ b' = { b with stop := b.stop - k } ∧
        b'.contents = b.contents.take (b.size - k)) ∧
    (b.size < k → b.flushStart n = .refused .bufferPrecondition ∧ b.flushEnd n = .refused .bufferPrecondition)

/-- The soft deletes `dropStart` (R148) and `dropEnd` (R149): only the cursors move, both to 0 when nothing is left; the
contents lose their first or last bytes; and after any soft deletes `restoreIndices` brings the contents of the last
`saveIndices` back. With nothing saved `restoreIndices` is refused (R153, R156). -/
def Obligations.BufferSoftDeletes : Prop :=
  ∀ (b : Buffer) (n : Nat), b.wf = true →
    (b.dropStart 0 = b ∧
      (0 < n → b.start + n < b.stop → b.dropStart n = { b with start := b.start + n }) ∧
      (0 < n → b.stop ≤ b.start + n → b.dropStart n = { b with start := 0, stop := 0 }) ∧
      (b.dropStart n).contents = b.contents.drop n) ∧
    (b.dropEnd 0 = b ∧
      (0 < n → b.start < b.stop - n → b.dropEnd n = { b with stop := b.stop - n }) ∧
      (0 < n → b.stop - n ≤ b.start → b.dropEnd n = { b with start := 0, stop := 0 }) ∧
      (b.dropEnd n).contents = b.contents.take (b.size - n)) ∧
    (∀ drops : List (Buffer → Buffer),
      (∀ f ∈ drops, ∃ m, f = (fun c => c.dropStart m) ∨ f = (fun c => c.dropEnd m)) →
      ∃ b', (drops.foldl (fun c f => f c) b.saveIndices).restoreIndices = .next b' ∧ b'.contents = b.contents ∧
        b'.heap = b.heap ∧ b'.start = b.start ∧ b'.stop = b.stop) ∧
    (b.saved = none → b.restoreIndices = .refused .bufferPrecondition)

/-- The reads (R144, R145): empty on a negative offset or a limit not positive, one byte with limit 1, else the bytes up
to the end of the contents; one byte outside the contents is refused (R156). The clamp to the end is the spec's own
choice. -/
def Obligations.BufferReads : Prop :=
  ∀ (b : Buffer) (offset limit : Int), b.wf = true →
    (offset < 0 ∨ limit ≤ 0 → b.read offset limit = .next .empty) ∧
    (∀ k : Nat, offset = k → limit = 1 → k < b.size →
      ∃ v, b.contents[k]? = some v ∧ b.read offset limit = .next (.one v) ∧ b.readByte k = .next v) ∧
    (∀ k : Nat, offset = k → limit = 1 → b.size ≤ k →
      b.read offset limit = .refused .bufferPrecondition ∧ b.readByte k = .refused .bufferPrecondition) ∧
    (∀ k n : Nat, offset = k → limit = n → 2 ≤ n →
      b.read offset limit = .next (.many ((b.contents.drop k).take n)))

/-- `setByte` replaces one byte of the contents, from the start or, with a negative index, from the end, and no other
byte of the heap; outside the contents it is refused (R151, R156). -/
def Obligations.BufferSetByte : Prop :=
  ∀ (b : Buffer) (index : Int) (v : Byte), b.wf = true →
    (∀ k : Nat, k < b.size → index = k ∨ index = (k : Int) - b.size →
      ∃ b', b.setByte index v = .next b' ∧ b'.contents = b.contents.set k v ∧
        b'.start = b.start ∧ b'.stop = b.stop ∧ b'.capacity = b.capacity ∧ b'.saved = b.saved ∧
        ∀ a, a ≠ b.start + k → b'.heap.read a = b.heap.read a) ∧
    ((b.size : Int) ≤ index ∨ index < -(b.size : Int) → b.setByte index v = .refused .bufferPrecondition)

/-- The drains (R283, R284): whole blocks leave from the front, in order, and at least one block and less than two stay;
with no more than one block nothing leaves. -/
def Obligations.Drain : Prop :=
  ∀ (block : Nat) (b : Buffer), 1 ≤ block → b.wf = true →
    (b.size ≤ block → drain block b = .next (b, [])) ∧
    (block < b.size → ∃ b' out, drain block b = .next (b', out) ∧
      out = b.contents.take ((b.size / block - 1) * block) ∧ b'.contents = b.contents.drop ((b.size / block - 1) * block) ∧
      block ∣ out.length ∧ block ≤ b'.size ∧ b'.size < 2 * block ∧ b'.wf = true)

/-! ### The header and the tokens -/

/-- A legal header (R205, R24): the mode, the dictionary size, its mask and its window, the seed byte in `bitBuffer`, no extra bits,
three bytes dropped, the Ascii tables built when the mode is Ascii, and the unit decodes. Nothing else changes. -/
def Obligations.HeaderResult : Prop :=
  ∀ (s : State) (mode : CompressionMode) (dict : DictionarySize) (seed : Byte),
    s.x.xstate = .awaitingHeader → 4 ≤ s.x.inBuf.size → s.x.inBuf.wf = true →
    ∃ b tables, exec (.header mode.toByte dict.toByte seed) s =
      .next { s with x := { s.x with
        mode := mode, dictBits := dict, distMask := BitVec.ofNat 6 (2 ^ dict.bits - 1)
        window := BitVec.ofNat 13 (2 ^ (dict.bits + 6))
        bitBuffer := seed.setWidth 16, extraBits := 0, inBuf := b, tables := tables
        headerParsed := true, xstate := .decoding, needMoreInput := false } } ∧
      b.contents = s.x.inBuf.contents.drop 3 ∧ b.heap = s.x.inBuf.heap ∧ b.saved = s.x.inBuf.saved ∧
      (mode = .binary → tables = s.x.tables) ∧
      (mode = .ascii → tables = { s.x.tables with ascii := some (generateAsciiTables s.cfg.tables) })

/-- An illegal header (R102, R302, R303, R310): byte 0 is checked first, and the error is taken as R307 says, with
nothing of the header written. `raisedX` also clears `needMoreInput`, which R307 does not name: the model's deduction from
R32 (log entry 11). -/
def Obligations.HeaderErrors : Prop :=
  ∀ (s : State) (m d seed : Byte), s.x.xstate = .awaitingHeader → 4 ≤ s.x.inBuf.size → s.x.outBuf.wf = true →
    (m ≠ 0 → m ≠ 1 → exec (.header m d seed) s = .next (s.raisedX .invalidCompressionType)) ∧
    (m = 0 ∨ m = 1 → d ≠ 4 → d ≠ 5 → d ≠ 6 →
      exec (.header m d seed) s = .next (s.raisedX .invalidDictionarySize))

/-- A literal, `LIT.B` or one of `LIT.A.00` to `LIT.A.FF`, appends its byte to the output and changes nothing else
(R207, R105, R106). -/
def Obligations.LiteralResult : Prop :=
  ∀ (i : Instr) (b : Byte) (s : State), i.shape = .literalBinary b ∨ i.shape = .literalAscii b →
    s.x.xstate = .decoding → s.x.outBuf.wf = true →
    ∃ out, exec i s = .next { s with x := { s.x with outBuf := out } } ∧ s.x.outBuf.Grew [b] out

/-- A length part `LEN.c`, END apart, fixes the repeat length `token - 0xFE` of its token `LenBase[c] + e + 0x100`, and
changes nothing else: no output, no `backup()` (R107, R110, R206, R209). The repeat length stands in a field of the model's
own (log entry 13). -/
def Obligations.LengthResult : Prop :=
  ∀ (i : Instr) (c e : Nat) (s : State), i.shape = .length c e → ¬(c = 15 ∧ e = 0xFF) →
    s.cfg.tables.legal = true → s.x.xstate = .decoding →
    exec i s = .next { s with x := { s.x with
      repeatLength := some (s.cfg.tables.lenBase.getD c 0 + e + 0x100 - 0xFE) } }

/-- END (R109, R212): the unit is Complete, nothing is appended, and the push ends with the drain's output and `DONE` (R203,
R283). `LEN.15` with the extra bits 0xFF is the same token by log entry 19's deduction. That `bitBuffer`, `extraBits`, `snap`
and `inBuf` stay as they were is log entry 12's choice: the spec leaves them unspecified in Complete (D33). What the drain
releases with a `BLOCK_X` outside R9's bounds, 0 among them, is log entry 22's choice. -/
def Obligations.EndResult : Prop :=
  ∀ (i : Instr) (s : State), i = .endToken ∨ (i = .len15 0xFF ∧ s.cfg.tables.legal = true) →
    s.x.xstate = .decoding → s.x.outBuf.wf = true →
    ∃ b, exec i s =
      .next (({ s with x := { s.x with
        xstate := .complete, endOfStream := true, repeatLength := none, outBuf := b } } : State).respond
          ⟨.done, .none, s.x.outBuf.contents.take (drainCount s.cfg.blockX s.x.outBuf.size)⟩) ∧
      b.contents = s.x.outBuf.contents.drop (drainCount s.cfg.blockX s.x.outBuf.size) ∧
      b.capacity = s.x.outBuf.capacity

/-- A distance part whose distance the history reaches (R192, R211): with `H` the output so far and `d` the distance, the
copy appends `H[|H| - d + (j mod d)]` for each `j` below the repeat length, and changes nothing else. -/
def Obligations.DistanceResult : Prop :=
  ∀ (i : Instr) (p : Nat) (low : BitVec 6) (s : State) (n : Nat), i.shape = .distance p low →
    s.x.xstate = .decoding → s.x.repeatLength = some n → s.x.outBuf.wf = true →
    ∀ d, d = ((p <<< (if n = 2 then 2 else s.x.dictBits.bits)) ||| low.toNat) + 1 → d ≤ s.x.outBuf.size →
    ∃ out, exec i s = .next { s with x := { s.x with outBuf := out, repeatLength := none } } ∧
      s.x.outBuf.Grew
        ((List.range n).map fun j => s.x.outBuf.contents.getD (s.x.outBuf.contents.length - d + j % d) 0) out

/-- A distance beyond the history (R210, R309): the error is taken as R307 says, and nothing of the token is
appended. `raisedX` also clears `needMoreInput`, which R307 does not name: the model's deduction from R32 (log entry 11). -/
def Obligations.DistanceError : Prop :=
  ∀ (i : Instr) (p : Nat) (low : BitVec 6) (s : State) (n : Nat), i.shape = .distance p low →
    s.x.xstate = .decoding → s.x.repeatLength = some n → s.x.outBuf.wf = true →
    s.x.outBuf.size < ((p <<< (if n = 2 then 2 else s.x.dictBits.bits)) ||| low.toNat) + 1 →
    exec i s = .next (s.raisedX .distanceBeyondHistory)

/-- Where the spec executes no token and no header, the model refuses (R200, R205, R206, R209; log entry 10). -/
def Obligations.TokensRefused : Prop :=
  (∀ (k : CodeTables) (i : Instr) (s : State),
      wellFormed k (.token .binary) i = true ∨ wellFormed k (.token .ascii) i = true ∨ (∃ p low, i.shape = .distance p low) →
    s.x.xstate ≠ .decoding → exec i s = .refused .outsideDecoding) ∧
  (∀ (i : Instr) (p : Nat) (low : BitVec 6) (s : State), i.shape = .distance p low → s.x.xstate = .decoding →
    s.x.repeatLength = none → exec i s = .refused .noLengthPart) ∧
  (∀ (m d seed : Byte) (s : State), s.x.xstate ≠ .awaitingHeader ∨ s.x.inBuf.size < 4 →
    exec (.header m d seed) s = .refused .noHeaderAwaited)

/-! ### The commands of the EXPLODE unit -/

/-- `X.RESET` (R201, R47), whatever the unit was: empty buffers, flags and `snap` cleared, `err` 0, tables built, Ascii
tables not; the answer is `(READY, 0, [])`. The other unit is not touched (R342). The new buffers have capacity 0, where R47
also allows a pre-sized one (log entry 17, D26), and `repeatLength` is the model's own field (log entry 13). The Static Code
Tables must be legal (U10; `CommandsRefused` says what happens with others). -/
def Obligations.XResetResult : Prop :=
  ∀ s : State, s.cfg.tables.legal = true →
    ∃ x, exec .xReset s = .next (({ s with x := x } : State).respond ⟨.ready, .none, []⟩) ∧
    x.live = true ∧ x.xstate = .awaitingHeader ∧ x.inBuf = Buffer.new ∧ x.outBuf = Buffer.new ∧
    x.headerParsed = false ∧ x.endOfStream = false ∧ x.needMoreInput = false ∧ x.snap = none ∧ x.err = .none ∧
    x.tables.lengthCodes = generateDecodeTables 256 s.cfg.tables.lenCode s.cfg.tables.lenBits ∧
    x.tables.distPosCodes = generateDecodeTables 256 s.cfg.tables.distCode s.cfg.tables.distBits ∧
    x.tables.ascii = none ∧ x.repeatLength = none

/-- `X.PUSH` (R203, R204): the bytes are appended to `inBuf`. Awaiting the header with fewer than 4 bytes in all, the push
ends with `(READY, 0, [])` and the bytes are not examined; with 4 or more the header is read next. Suspended, the unit
decodes again. In these two cases `exec` gives no answer yet: it leaves the header and the decode loop, which R203 runs
within the command, to the steps that follow (log entry 1, DESIGN CHOICE). -/
def Obligations.XPushResult : Prop :=
  ∀ (s : State) (bytes : List Byte), s.x.live = true → s.x.inBuf.wf = true →
    (s.x.xstate = .awaitingHeader → s.x.inBuf.size + bytes.length < 4 →
      ∃ b, exec (.xPush bytes) s =
        .next (({ s with x := { s.x with inBuf := b } } : State).respond ⟨.ready, .none, []⟩) ∧
        s.x.inBuf.Grew bytes b) ∧
    (s.x.xstate = .awaitingHeader → s.x.inBuf.size < 4 → 4 ≤ s.x.inBuf.size + bytes.length →
      ∃ t, exec (.xPush bytes) s = .next t ∧ t = { s with x := { s.x with inBuf := t.x.inBuf } } ∧
        s.x.inBuf.Grew bytes t.x.inBuf ∧ t.x.space? = some .header) ∧
    (s.x.xstate = .suspended →
      ∃ t, exec (.xPush bytes) s = .next t ∧
        t = { s with x := { s.x with inBuf := t.x.inBuf, xstate := .decoding, needMoreInput := false } } ∧
        s.x.inBuf.Grew bytes t.x.inBuf)

/-- `X.FINISH` (R215): in Error it reports the error again; in Complete it returns all buffered output and clears it, so
that a second one answers with none; else it raises `Aborted` (R216, R308), whatever stands in the header bytes, and
delivers the output of every completed token (R307). The abort is the spec's own decision (D21, D36), and that it clears
`needMoreInput` is the model's deduction from R32 (log entry 11). -/
def Obligations.XFinishResult : Prop :=
  ∀ s : State, s.x.live = true → s.x.outBuf.wf = true →
    (s.x.xstate = .error → exec .xFinish s = .next (s.respond ⟨.error, s.x.err, []⟩)) ∧
    (s.x.xstate = .complete →
      ∃ b, exec .xFinish s =
        .next (({ s with x := { s.x with outBuf := b } } : State).respond ⟨.done, .none, s.x.outBuf.contents⟩) ∧
        b.contents = [] ∧ b.heap = s.x.outBuf.heap ∧
        ∀ t : State, t.x = { s.x with outBuf := b } → exec .xFinish t = .next (t.respond ⟨.done, .none, []⟩)) ∧
    (s.x.xstate = .suspended ∨ (s.x.xstate = .awaitingHeader ∧ s.x.inBuf.size < 4) →
      exec .xFinish s = .next (s.raisedX .aborted))

/-- Error is sticky (R217): `X.PUSH` and `X.FINISH` change nothing and report the same error again, and no instruction but
`X.RESET` changes the unit. -/
def Obligations.XErrorSticky : Prop :=
  ∀ s : State, s.x.live = true → s.x.xstate = .error →
    (∀ bytes, exec (.xPush bytes) s = .next (s.respond ⟨.error, s.x.err, []⟩)) ∧
    exec .xFinish s = .next (s.respond ⟨.error, s.x.err, []⟩) ∧
    (∀ (i : Instr) (t : State), i ≠ .xReset → exec i s = .next t → t.x = s.x) ∧
    (s.cfg.tables.legal = true → ∃ t, exec .xReset s = .next t ∧ t.x.xstate = .awaitingHeader)

/-- In Complete further input is ignored (R214): `X.PUSH` appends nothing, decodes nothing and answers `(DONE, 0, [])`;
the buffered output stays until `X.FINISH`, and a second stream needs `X.RESET`. -/
def Obligations.XCompleteIgnores : Prop :=
  ∀ s : State, s.x.live = true → s.x.xstate = .complete →
    (∀ bytes, exec (.xPush bytes) s = .next (s.respond ⟨.done, .none, []⟩)) ∧
    (∀ (i : Instr) (t : State), i ≠ .xReset → i ≠ .xFinish → exec i s = .next t → t.x = s.x) ∧
    (∀ t, exec .xFinish s = .next t → t.x.xstate = .complete) ∧
    (s.cfg.tables.legal = true → ∃ t, exec .xReset s = .next t ∧ t.x.xstate = .awaitingHeader)

/-- A unit that was never reset accepts nothing but RESET (R49, R200, R230), a unit with a push in progress accepts no
second command (R350; log entry 10), and with Static Code Tables that violate a constraint a RESET is refused (R119, U10; log
entry 5). -/
def Obligations.CommandsRefused : Prop :=
  ∀ (s : State) (bytes : List Byte),
    (s.x.live = false → exec (.xPush bytes) s = .refused .neverReset ∧ exec .xFinish s = .refused .neverReset) ∧
    (s.i.live = false → exec (.iPush bytes) s = .refused .neverReset ∧ exec .iFinish s = .refused .neverReset) ∧
    (s.x.space?.isSome = true → exec (.xPush bytes) s = .refused .commandInProgress ∧
      exec .xFinish s = .refused .commandInProgress) ∧
    (s.cfg.tables.legal = false → exec .xReset s = .refused .illegalTables ∧
      ∀ m d, exec (.iReset m d) s = .refused .illegalTables)

/-! ### A running push -/

/-- A token that lacks input (R213): the unit is suspended exactly as it stood before the token, but for the saved copy of
where it stood; the push answers `READY` (R203) with the drained output, whole blocks of it (R283, decision D19). -/
def Obligations.SuspendRestores : Prop :=
  ∀ (s : State) (mode : CompressionMode) (r : BitReader), s.Inv → s.x.space? = some (.token mode) →
    decode s.cfg.tables s.x.tables (.token mode) s.x.reader = .needMoreInput r →
    ∃ b, step s =
      .next (({ s with x := { s.x with
        xstate := .suspended, needMoreInput := true, snap := some (s.x.bitBuffer, s.x.extraBits)
        inBuf := { s.x.inBuf with saved := some (s.x.inBuf.start, s.x.inBuf.stop) }, outBuf := b } } : State).respond
          ⟨.ready, .none, s.x.outBuf.contents.take (drainCount s.cfg.blockX s.x.outBuf.size)⟩) ∧
      b.contents = s.x.outBuf.contents.drop (drainCount s.cfg.blockX s.x.outBuf.size)

/-- A COPY is undone as a whole (R209): if its length part decodes and its distance part lacks input, the unit is
suspended with the bits and bytes it had before the length part, and nothing has been appended. That the two parts are two
steps, with the repeat length in a field between them, is the model's (log entries 1 and 13). -/
def Obligations.CopyRollback : Prop :=
  ∀ (s s₁ : State) (mode : CompressionMode) (n : Nat) (r : BitReader), s.Inv → s.x.space? = some (.token mode) →
    step s = .next s₁ → s₁.x.repeatLength = some n →
    decode s₁.cfg.tables s₁.x.tables (.distance n s₁.x.dictBits s₁.x.distMask) s₁.x.reader = .needMoreInput r →
    ∃ t, step s₁ = .next t ∧ t.x.xstate = .suspended ∧ t.x.needMoreInput = true ∧ t.x.repeatLength = none ∧
      t.x.bitBuffer = s.x.bitBuffer ∧ t.x.extraBits = s.x.extraBits ∧ t.x.inBuf.contents = s.x.inBuf.contents ∧
      t.x.err = s.x.err ∧
      ∃ out, t.responses = s.responses ++ [⟨.ready, .none, out⟩] ∧
        out ++ t.x.outBuf.contents = s.x.outBuf.contents

/-- A running push always goes on (R116, R206): no step of it stops the machine, and each either ends the push or uses up
bits of a finite input. -/
def Obligations.PushProgress : Prop :=
  ∀ (s : State) (sp : Space), s.Inv → s.x.space? = some sp →
    ∃ t, step s = .next t ∧
      ((t.x.space? = none ∧ t.responses.length = s.responses.length + 1) ∨
       (t.x.space?.isSome = true ∧ t.responses = s.responses ∧ t.x.pendingBits < s.x.pendingBits))

/-- A push ends, with one answer, after at most as many steps as the unit holds bits, and one more (R206, R8). -/
def Obligations.PushEnds : Prop :=
  ∀ s : State, s.Inv → s.x.space?.isSome = true →
    ∃ n t, n ≤ s.x.pendingBits + 1 ∧ Host.Core.run Sys2Proof.core n s = .next t ∧ t.x.space? = none ∧
      t.responses.length = s.responses.length + 1 ∧ t.host = s.host ∧ t.i = s.i

/-! ### The IMPLODE unit -/

/-- `outputBits` (R252) writes the `nBits` bits of `code` right above the bits written so far, low bit first, and keeps
the last byte the one being filled (R39); it never refuses and changes nothing but `outBuf` and `outBits`. -/
def Obligations.OutputBits : Prop :=
  ∀ (i : IUnit) (n code : Nat), i.outBuf.wf = true → i.Packed → 1 ≤ n → n ≤ 16 → code < 2 ^ n →
    ∃ j, outputBits n code i = .next j ∧ j = { i with outBuf := j.outBuf, outBits := j.outBits } ∧
      j.outBuf.wf = true ∧ j.Packed ∧ j.outBuf.saved = i.outBuf.saved ∧ j.position = i.position + n ∧
      bytesToNat j.outBuf.contents = bytesToNat i.outBuf.contents + code <<< i.position

/-- `emitLiteral(b)` (R254) writes the tables' code of `b`: in Binary mode 9 bits, the number `2b`; in Ascii mode
`ChBitsAsc[b] + 1` bits, the number `2 · ChCodeAsc[b]`; the cursor stays. -/
def Obligations.EmitLiteral : Prop :=
  ∀ (k : CodeTables) (i : IUnit) (b : Byte), k.legal = true → i.Encoding k →
    emitLiteral b i = outputBits (i.literalBits.getD b.toNat 0) (i.literalCodes.getD b.toNat 0) i ∧
    (i.mode = .binary → emitLiteral b i = outputBits 9 (2 * b.toNat) i) ∧
    (i.mode = .ascii → emitLiteral b i =
      outputBits (k.chBitsAsc.getD b.toNat 0 + 1) (2 * k.chCodeAsc.getD b.toNat 0) i) ∧
    (∃ j, emitLiteral b i = .next j ∧ j.cursor = i.cursor)

/-- `emitEnd()` (R256) writes the tables' code of END, which with the default tables is `outputBits(16, 0xFF01)`. -/
def Obligations.EmitEnd : Prop :=
  ∀ (k : CodeTables) (i : IUnit), k.legal = true → i.Encoding k →
    emitEnd i = outputBits (i.literalBits.getD endTokenNumber 0) (i.literalCodes.getD endTokenNumber 0) i ∧
    emitEnd i = outputBits (lengthCode k 15 0xFF).width (lengthCode k 15 0xFF).bits i ∧
    (k.values = TableValues.standard → emitEnd i = outputBits 16 0xFF01 i)

/-- `emitMatch` (R255, R257): for every flushable match inside the window it writes the encoding of the length part and
then that of the distance part, the pattern the decoder reads, and moves the cursor past the match. The length part is the one
of token `size + 0xFE`: its code is one of the 16, with as many extra bits as the code has. -/
def Obligations.EmitMatch : Prop :=
  ∀ (k : CodeTables) (i : IUnit) (size d : Nat), k.legal = true → i.Encoding k → flushable size d = true → 2 ≤ size →
    size ≤ 0x204 → d < i.window.toNat →
    ∃ j c e, emitMatch k size d i = .next j ∧ c < 16 ∧ e < 2 ^ k.exLenBits.getD c 0 ∧
      k.lenBase.getD c 0 + e + 0x100 = size + 0xFE ∧ wellFormed k (.token i.mode) (lengthPart c e) = true ∧
      (let w := if size = 2 then 2 else i.dictBits.bits
       let len := encode k (.token i.mode) (lengthPart c e)
       let dist :=
        encode k (.distance size i.dictBits i.distMask) (distancePart (d / 2 ^ w) (BitVec.ofNat 6 (d % 2 ^ w)))
       j = { i with outBuf := j.outBuf, outBits := j.outBits, cursor := i.cursor + size } ∧
       j.position = i.position + len.width + dist.width ∧
       bytesToNat j.outBuf.contents =
         bytesToNat i.outBuf.contents + (len.bits + dist.bits <<< len.width) <<< i.position)

/-- Flushability (R239): not for size 0, not for size 2 at a stored distance of 0x100 or more; and every flushable match
of size 2 can be encoded (R108). -/
def Obligations.Flushability : Prop :=
  ∀ size d : Nat, (flushable size d = true ↔ ¬(size = 0 ∨ (size = 2 ∧ 0x100 ≤ d))) ∧
    (flushable 2 d = true → d / 2 ^ 2 ≤ 63)

/-- `findRepetitions` (R238): the earliest place in the history whose two bytes are the needle, wholly before the cursor,
extended as far as the bytes agree, at most 0x204 and at most what is there; the stored distance is one less than the
true one. Otherwise `(0, 0)`. -/
def Obligations.FindRepetitions : Prop :=
  ∀ (bytes : List Byte) (cursor : Nat), cursor ≤ bytes.length →
    let needleAt := fun m => bytes[m]? = bytes[cursor]? ∧ bytes[m + 1]? = bytes[cursor + 1]?
    let cap := min 0x204 (bytes.length - cursor)
    (findRepetitions bytes cursor = (0, 0) ∧
      (cap < 2 ∨ cursor < 2 ∨ ∀ m, m + 2 ≤ cursor → ¬needleAt m)) ∨
    (∃ m size, findRepetitions bytes cursor = (size, cursor - m - 1) ∧ m + 2 ≤ cursor ∧ needleAt m ∧
      (∀ m', m' < m → ¬needleAt m') ∧ 2 ≤ size ∧ size ≤ cap ∧
      (∀ k, k < size → bytes[m + k]? = bytes[cursor + k]?) ∧
      (size < cap → bytes[m + size]? ≠ bytes[cursor + size]?))

/-- `evict()` (R258): once the cursor has reached `W`, exactly `W` bytes of history are dropped and the cursor goes back
by `W`; before that nothing changes. -/
def Obligations.Evict : Prop :=
  ∀ i : IUnit, i.inBuf.wf = true → i.cursor ≤ i.inBuf.size →
    (i.cursor < i.window.toNat → evict i = i) ∧
    (i.window.toNat ≤ i.cursor → ∃ b, evict i = { i with inBuf := b, cursor := i.cursor - i.window.toNat } ∧
      b.contents = i.inBuf.contents.drop i.window.toNat ∧ b.heap = i.inBuf.heap)

/-- The two kinds of scan step (R237). Once the first two bytes are handled, a step (R240) encodes one token: it takes the
match of `findRepetitions` where that is flushable, else the byte at the cursor as a literal, and then evicts (R258); so
the unscanned input shrinks by the match size or by one byte, and `outBuf` gains bits. Before that, a step (R236) emits
the first two bytes as literals and sets the cursor to 2 if there are 3 bytes or more, and else only sets the flag. Neither
ever stops, and both keep what holds of an encoding unit (R241). -/
def Obligations.ScanStep : Prop :=
  ∀ (k : CodeTables) (i : IUnit), k.legal = true → i.Encoding k →
    (i.handledFirstTwoBytes = true → i.cursor < i.inBuf.size →
      let m := findRepetitions i.inBuf.contents i.cursor
      ∃ u j,
        (if flushable m.1 m.2 then emitMatch k m.1 m.2 i = .next u
         else ∃ b v, i.inBuf.contents[i.cursor]? = some b ∧ emitLiteral b i = .next v ∧
           u = { v with cursor := v.cursor + 1 }) ∧
        scanStep k i = .next j ∧ j = evict u ∧ j.Encoding k ∧ j.handledFirstTwoBytes = true ∧
        j.inBuf.size - j.cursor + (if flushable m.1 m.2 then m.1 else 1) = i.inBuf.size - i.cursor ∧
        (j.mode, j.dictBits, j.streamEnded, j.istate, j.err) = (i.mode, i.dictBits, i.streamEnded, i.istate, i.err) ∧
        i.position < j.position) ∧
    (i.handledFirstTwoBytes = false → 3 ≤ i.inBuf.size →
      ∃ b0 b1 u v, i.inBuf.contents[0]? = some b0 ∧ i.inBuf.contents[1]? = some b1 ∧
        emitLiteral b0 { i with handledFirstTwoBytes := true } = .next u ∧ emitLiteral b1 u = .next v ∧
        firstTwoBytes i = .next { v with cursor := 2 } ∧
        ({ v with cursor := 2 } : IUnit).Encoding k ∧
        v = { i with handledFirstTwoBytes := true, outBuf := v.outBuf, outBits := v.outBits }) ∧
    (i.handledFirstTwoBytes = false → i.inBuf.size < 3 →
      firstTwoBytes i = .next { i with handledFirstTwoBytes := true } ∧
      ({ i with handledFirstTwoBytes := true } : IUnit).Encoding k)

/-- `I.RESET` with legal operands (R231, R48, R235): the registers, the tables for the mode, the three header bytes in
`outBuf`, the rest empty; the answer is `(READY, 0, [])` and carries no header byte. -/
def Obligations.IResetLegal : Prop :=
  ∀ (s : State) (mode : CompressionMode) (dict : DictionarySize), s.cfg.tables.legal = true →
    ∃ i, exec (.iReset mode.toByte dict.toByte) s =
      .next (({ s with i := i } : State).respond ⟨.ready, .none, []⟩) ∧
      i.live = true ∧ i.istate = .accumulating ∧ i.mode = mode ∧ i.dictBits = dict ∧
      i.distMask.toNat = 2 ^ dict.bits - 1 ∧ i.window.toNat = 2 ^ (dict.bits + 6) ∧
      i.literalBits = literalBitsTable s.cfg.tables mode ∧ i.literalCodes = literalCodesTable s.cfg.tables mode ∧
      i.outBuf.contents = [mode.toByte, dict.toByte, 0x00] ∧ i.outBits = 0 ∧ i.inBuf = Buffer.new ∧ i.cursor = 0 ∧
      i.handledFirstTwoBytes = false ∧ i.streamEnded = false ∧ i.err = .none

/-- `I.RESET` with illegal operands (R304): `(ERROR, 2, [])` for the mode, checked first, else `(ERROR, 1, [])` for the
size; the unit is in Error with empty buffers and no tables, and says so again until a legal `I.RESET`. -/
def Obligations.IResetIllegal : Prop :=
  ∀ (s : State) (m d : Byte) (k : ErrorCode), s.cfg.tables.legal = true →
    ((m ≠ 0 ∧ m ≠ 1 ∧ k = .invalidCompressionType) ∨
     ((m = 0 ∨ m = 1) ∧ d ≠ 4 ∧ d ≠ 5 ∧ d ≠ 6 ∧ k = .invalidDictionarySize)) →
    ∃ i, exec (.iReset m d) s = .next (({ s with i := i } : State).respond ⟨.error, k, []⟩) ∧
      i.istate = .error ∧ i.err = k ∧ i.inBuf.contents = [] ∧ i.outBuf.contents = [] ∧ i.literalBits = [] ∧
      i.literalCodes = [] ∧
      ∀ t : State, t.i = i →
        (∀ bytes, exec (.iPush bytes) t = .next (t.respond ⟨.error, k, []⟩)) ∧
        exec .iFinish t = .next (t.respond ⟨.error, k, []⟩) ∧
        (t.cfg = s.cfg → ∀ mode dict, ∃ j, exec (.iReset (CompressionMode.toByte mode) (DictionarySize.toByte dict)) t =
          .next (({ t with i := j } : State).respond ⟨.ready, .none, []⟩) ∧ j.istate = .accumulating)

/-- `I.PUSH` (R260): the bytes are appended, the scan runs until no step is enabled, and the drain's output leaves (R261,
R284, decision D19); nothing stops it. A step is enabled (R237, decision D13) while a byte is unscanned and the stream has
ended or, with the lookahead hold, 0x204 bytes from the cursor on are there; without the hold, also once the first two
bytes are handled or 3 bytes are there. The scan takes R236's step before the first two bytes are handled, R240's after. -/
def Obligations.IPushResult : Prop :=
  (∀ i : IUnit,
    (enabled true i = true ↔
      i.cursor < i.inBuf.size ∧ (i.streamEnded = true ∨ 0x204 ≤ i.inBuf.size - i.cursor)) ∧
    (enabled false i = true ↔
      i.cursor < i.inBuf.size ∧ (i.streamEnded = true ∨ i.handledFirstTwoBytes = true ∨ 3 ≤ i.inBuf.size))) ∧
  (∀ (k : CodeTables) (hold : Bool) (i : IUnit), k.legal = true → i.Encoding k →
    (enabled hold i = false → scanLoop k hold i = .next i) ∧
    (enabled hold i = true → ∃ u, (if i.handledFirstTwoBytes then scanStep k i else firstTwoBytes i) = .next u ∧
      scanLoop k hold i = scanLoop k hold u)) ∧
  ∀ (s : State) (bytes : List Byte), s.cfg.legal = true → s.i.Inv s.cfg.tables → s.i.istate = .accumulating →
    ∃ j b, scanLoop s.cfg.tables s.cfg.lookaheadHold { s.i with inBuf := s.i.inBuf.append bytes } = .next j ∧
      enabled s.cfg.lookaheadHold j = false ∧ j.Encoding s.cfg.tables ∧
      exec (.iPush bytes) s =
        .next (({ s with i := { j with outBuf := b, istate := .accumulating } } : State).respond
          ⟨.ready, .none, j.outBuf.contents.take (drainCount s.cfg.blockI j.outBuf.size)⟩) ∧
      b.contents = j.outBuf.contents.drop (drainCount s.cfg.blockI j.outBuf.size)

/-- `I.FINISH` (R262): every byte still held is scanned, END is emitted, all output leaves, and the unit is Finalized;
nothing stops it. -/
def Obligations.IFinishResult : Prop :=
  ∀ s : State, s.cfg.legal = true → s.i.Inv s.cfg.tables → s.i.istate = .accumulating →
    ∃ j k b, scanLoop s.cfg.tables s.cfg.lookaheadHold { s.i with streamEnded := true } = .next j ∧ j.cursor = j.inBuf.size ∧
      emitEnd j = .next k ∧
      exec .iFinish s =
        .next (({ s with i := { k with outBuf := b, istate := .finalized } } : State).respond
          ⟨.done, .none, k.outBuf.contents⟩) ∧
      b.contents = []

/-- Finalized (R263): `I.PUSH` appends nothing and answers `(DONE, 0, [])`, a second `I.FINISH` the same; no instruction
but `I.RESET` changes the unit. -/
def Obligations.IFinalized : Prop :=
  ∀ s : State, s.i.live = true → s.i.istate = .finalized →
    (∀ bytes, exec (.iPush bytes) s = .next (s.respond ⟨.done, .none, []⟩)) ∧
    exec .iFinish s = .next (s.respond ⟨.done, .none, []⟩) ∧
    (∀ (i : Instr) (t : State), (∀ m d, i ≠ .iReset m d) → exec i s = .next t → t.i = s.i) ∧
    (s.cfg.tables.legal = true → ∀ mode dict, ∃ t,
      exec (.iReset (CompressionMode.toByte mode) (DictionarySize.toByte dict)) s = .next t ∧
        t.i.istate = .accumulating)

/-! ### The two units -/

/-- The frame of every instruction (R21, R342, R46): the parameters and the waiting commands stay, answers are only added,
and an instruction of one unit leaves the other as it was. -/
def Obligations.UnitFrame : Prop :=
  ∀ (i : Instr) (s t : State), exec i s = .next t →
    t.cfg = s.cfg ∧ t.host = s.host ∧ s.responses <+: t.responses ∧
    (forImplode i = false → t.i = s.i) ∧ (forImplode i = true → t.x = s.x)

/-- The units share no mutable state (R21): what an instruction of one unit does is the same whatever the other unit
holds. -/
def Obligations.UnitsIndependent : Prop :=
  ∀ (i : Instr) (s : State) (x : XUnit) (u : IUnit),
    (forImplode i = false →
      match exec i s with
      | .next t => exec i { s with i := u } = .next { t with i := u }
      | .fault f => exec i { s with i := u } = .fault f
      | .refused r => exec i { s with i := u } = .refused r) ∧
    (forImplode i = true →
      match exec i s with
      | .next t => exec i { s with x := x } = .next { t with x := x }
      | .fault f => exec i { s with x := x } = .fault f
      | .refused r => exec i { s with x := x } = .refused r)

/-! ### Whole sessions -/

/-- Decompression computes the functional summary of R218, and so does not depend on the chunks (R18, R219): whatever chunks
the host cuts a byte sequence into, the outputs concatenated are the bytes its tokens append, and the last answer is
`(DONE, 0)` when END is decoded, `(ERROR, 4)` when the stream is short of it, else the header's or the distance's error. -/
def Obligations.ExplodeChunks : Prop :=
  ∀ (cfg : Config) (chunks : List (List Byte)), cfg.legal = true →
    let summary := explodeSummary cfg.tables chunks.flatten
    Answers cfg (explodeSession chunks) summary.1 summary.2.1 summary.2.2

/-- Truncation (R18, R204, R216, R218, R308): a stream of fewer than 4 bytes ends `Aborted` at `X.FINISH` with no output; and
where a stream completes with its last byte and not before, every proper prefix of it, however cut, ends `Aborted` too,
with the outputs concatenated those of the tokens it completes, a prefix of the whole stream's output. -/
def Obligations.ShortStream : Prop :=
  ∀ cfg : Config, cfg.legal = true →
    (∀ chunks : List (List Byte), chunks.flatten.length < 4 →
      Answers cfg (explodeSession chunks) [] .error .aborted) ∧
    (∀ (stream out : List Byte), explodeSummary cfg.tables stream = (out, .done, .none) →
      (explodeSummary cfg.tables stream.dropLast).2.1 ≠ .done →
      ∀ cut : List Byte, cut <+: stream → cut ≠ stream →
        ∃ early, explodeSummary cfg.tables cut = (early, .error, .aborted) ∧ early <+: out ∧
          ∀ chunks : List (List Byte), chunks.flatten = cut →
            Answers cfg (explodeSession chunks) early .error .aborted)

/-- Header rejection (R18, R302, R303, R310): a stream of 4 bytes or more with an illegal byte 0, or a legal byte 0 and an
illegal byte 1, ends with that error and no output, however it is cut. -/
def Obligations.HeaderRejection : Prop :=
  ∀ (cfg : Config) (chunks : List (List Byte)) (b0 b1 b2 b3 : Byte) (rest : List Byte), cfg.legal = true →
    chunks.flatten = b0 :: b1 :: b2 :: b3 :: rest →
    (b0 ≠ 0 → b0 ≠ 1 → Answers cfg (explodeSession chunks) [] .error .invalidCompressionType) ∧
    (b0 = 0 ∨ b0 = 1 → b1 ≠ 4 → b1 ≠ 5 → b1 ≠ 6 →
      Answers cfg (explodeSession chunks) [] .error .invalidDictionarySize)

/-- Compression computes the functional summary of R264, and so does not depend on the chunks (R241): with the lookahead
hold (R237, decision D13), whatever chunks the host cuts a byte sequence into, the outputs concatenated are the header
bytes and the packed bits of its tokens and END, and the last answer is `(DONE, 0)`; the compressor always completes
(R262, decision D18). -/
def Obligations.ImplodeChunks : Prop :=
  ∀ (cfg : Config) (mode : CompressionMode) (dict : DictionarySize) (chunks : List (List Byte)), cfg.legal = true →
    cfg.lookaheadHold = true →
    Answers cfg (implodeSession mode dict chunks) (implodeSummary cfg.tables mode dict chunks.flatten) .done .none

/-- Round trip (R18, R265): what the IMPLODE unit makes of a byte sequence, the EXPLODE unit turns back into it, for every
mode and dictionary size and however either is cut. -/
def Obligations.RoundTrip : Prop :=
  ∀ (cfg : Config) (mode : CompressionMode) (dict : DictionarySize) (chunks : List (List Byte)), cfg.legal = true →
    ∃ packed, Answers cfg (implodeSession mode dict chunks) packed .done .none ∧
      ∀ chunks', chunks'.flatten = packed → Answers cfg (explodeSession chunks') chunks.flatten .done .none

end
end

