-- ==== Sys2Proof/Laws/Memory.lean ====
section
/-! SUPPORT. The heap: its canonical form, what a write leaves, and the slices of a window. Every memory operation keeps
the canonical form (`wf_cellsAt`, `wf_write`). -/

namespace Sys2Proof.Machine

/-! ### The canonical form -/

theorem risingFrom_iff (a : Nat) (m : Memory) :
    Memory.risingFrom a m = true ↔ (∀ c ∈ m, a ≤ c.1) ∧ m.Pairwise (fun c d => c.1 < d.1) := by
  induction m generalizing a with
  | nil => simp [Memory.risingFrom]
  | cons c rest ih =>
    simp only [Memory.risingFrom, Bool.and_eq_true, decide_eq_true_eq, ih, List.mem_cons, List.pairwise_cons,
      forall_eq_or_imp]
    constructor
    · rintro ⟨h, hall, hp⟩
      exact ⟨⟨h, fun d hd => Nat.le_of_succ_le (Nat.le_trans (Nat.succ_le_succ h) (hall d hd))⟩,
        fun d hd => hall d hd, hp⟩
    · rintro ⟨⟨h, _⟩, hlt, hp⟩
      exact ⟨h, fun d hd => hlt d hd, hp⟩

theorem wf_iff (m : Memory) : m.wf = true ↔ m.Pairwise (fun c d => c.1 < d.1) := by
  simp [Memory.wf, risingFrom_iff]

theorem wf_cons {c : Host.Cell} {m : Memory} :
    Memory.wf (c :: m) = true ↔ (∀ d ∈ m, c.1 < d.1) ∧ m.wf = true := by
  rw [wf_iff, wf_iff, List.pairwise_cons]

theorem wf_nil : Memory.wf [] = true := rfl

/-! ### Laying bytes down -/

@[simp] theorem cellsAt_nil (a : Nat) : Memory.cellsAt a [] = [] := rfl
@[simp] theorem cellsAt_cons (a : Nat) (b : Byte) (s : List Byte) :
    Memory.cellsAt a (b :: s) = (a, b) :: Memory.cellsAt (a + 1) s := rfl

theorem mem_cellsAt {a : Nat} {s : List Byte} {c : Host.Cell} (h : c ∈ Memory.cellsAt a s) :
    a ≤ c.1 ∧ c.1 < a + s.length := by
  induction s generalizing a with
  | nil => simp at h
  | cons b s ih =>
    rcases List.mem_cons.1 h with rfl | h
    · simp
    · have := ih h; simp only [List.length_cons]; omega

theorem wf_cellsAt (a : Nat) (s : List Byte) : (Memory.cellsAt a s).wf = true := by
  induction s generalizing a with
  | nil => rfl
  | cons b s ih => exact wf_cons.2 ⟨fun d hd => (mem_cellsAt hd).1, ih (a + 1)⟩

@[simp] theorem cellsAt_snd (a : Nat) (s : List Byte) : (Memory.cellsAt a s).map (fun c => c.2) = s := by
  induction s generalizing a with
  | nil => rfl
  | cons b s ih => simp [ih]

theorem filter_none {m : Memory} {p : Host.Cell → Bool} (h : ∀ c ∈ m, p c = false) : m.filter p = [] :=
  List.filter_eq_nil_iff.2 fun c hc => by simp [h c hc]

theorem filter_cellsAt_all {a : Nat} {s : List Byte} {p : Host.Cell → Bool}
    (h : ∀ c : Host.Cell, a ≤ c.1 → c.1 < a + s.length → p c = true) :
    (Memory.cellsAt a s).filter p = Memory.cellsAt a s :=
  List.filter_eq_self.2 fun c hc => h c (mem_cellsAt hc).1 (mem_cellsAt hc).2

theorem mem_write {m : Memory} {a : Nat} {s : List Byte} {c : Host.Cell} (h : c ∈ m.write a s) :
    c ∈ m ∨ (a ≤ c.1 ∧ c.1 < a + s.length) := by
  simp only [Memory.write, List.mem_append, List.mem_filter] at h
  rcases h with (h | h) | h
  · exact .inl h.1
  · exact .inr (mem_cellsAt h)
  · exact .inl h.1

/-- A write keeps the canonical form. -/
theorem wf_write {m : Memory} (h : m.wf = true) (a : Nat) (s : List Byte) : (m.write a s).wf = true := by
  rw [wf_iff] at h ⊢
  have hc := (wf_iff _).1 (wf_cellsAt a s)
  simp only [Memory.write]
  refine List.pairwise_append.2 ⟨List.pairwise_append.2 ⟨h.filter _, hc, ?_⟩, h.filter _, ?_⟩
  · intro c hc1 d hd
    have := (mem_cellsAt hd).1
    have := (List.mem_filter.1 hc1).2
    simp only [decide_eq_true_eq] at this
    omega
  · intro c hc1 d hd
    have h2 := (List.mem_filter.1 hd).2
    simp only [decide_eq_true_eq] at h2
    rcases List.mem_append.1 hc1 with hc1 | hc1
    · have := (List.mem_filter.1 hc1).2
      simp only [decide_eq_true_eq] at this
      omega
    · have := (mem_cellsAt hc1).2
      omega

/-! ### Reading one byte -/

/-- In canonical form a read finds exactly the listed byte. -/
theorem read_eq_some {m : Memory} (h : m.wf = true) {a : Nat} {v : Byte} :
    m.read a = some v ↔ (a, v) ∈ m := by
  induction m with
  | nil => simp [Memory.read]
  | cons c m ih =>
    obtain ⟨hlt, hm⟩ := wf_cons.1 h
    obtain ⟨k, w⟩ := c
    have ih := ih hm
    simp only [Memory.read, List.find?_cons] at ih ⊢
    by_cases hk : k = a
    · subst hk
      simp only [beq_self_eq_true, Option.map_some, Option.some.injEq, List.mem_cons, Prod.mk.injEq, true_and]
      constructor
      · rintro rfl; exact .inl rfl
      · rintro (h | h)
        · exact h.symm
        · exact absurd (hlt _ h) (Nat.lt_irrefl _)
    · simp only [beq_eq_false_iff_ne.2 hk, ih, List.mem_cons, Prod.mk.injEq]
      constructor
      · exact .inr
      · rintro (h | h)
        · exact absurd h.1.symm hk
        · exact h

theorem mem_cellsAt_iff {a : Nat} {s : List Byte} {k : Nat} {v : Byte} :
    (k, v) ∈ Memory.cellsAt a s ↔ a ≤ k ∧ s[k - a]? = some v := by
  induction s generalizing a with
  | nil => simp
  | cons b s ih =>
    simp only [cellsAt_cons, List.mem_cons, Prod.mk.injEq, ih]
    rcases Nat.lt_trichotomy k a with h | h | h
    · constructor
      · rintro (⟨rfl, _⟩ | ⟨h', _⟩) <;> omega
      · rintro ⟨h', _⟩; omega
    · subst h
      simp [eq_comm]
    · have e : k - a = (k - (a + 1)) + 1 := by omega
      rw [e, List.getElem?_cons_succ]
      constructor
      · rintro (⟨rfl, _⟩ | ⟨_, h'⟩)
        · omega
        · exact ⟨by omega, h'⟩
      · rintro ⟨_, h'⟩
        exact .inr ⟨by omega, h'⟩

/-- A write leaves every byte outside it as it was. -/
theorem read_write_outside {m : Memory} (h : m.wf = true) {p : Nat} {s : List Byte} {a : Nat}
    (ha : a < p ∨ p + s.length ≤ a) : (m.write p s).read a = m.read a := by
  refine Option.ext fun v => ?_
  rw [read_eq_some (wf_write h p s), read_eq_some h]
  simp only [Memory.write, List.mem_append, List.mem_filter, decide_eq_true_eq]
  constructor
  · rintro ((⟨h, _⟩ | h) | ⟨h, _⟩)
    · exact h
    · have := mem_cellsAt h; simp only at this; omega
    · exact h
  · intro hv
    rcases ha with ha | ha
    · exact .inl (.inl ⟨hv, ha⟩)
    · exact .inr ⟨hv, ha⟩

/-- A read of a byte that was just written gives the value written. -/
theorem read_write_inside {m : Memory} (h : m.wf = true) {p : Nat} {s : List Byte} {a : Nat}
    (ha : p ≤ a) (hb : a < p + s.length) : (m.write p s).read a = s[a - p]? := by
  refine Option.ext fun v => ?_
  rw [read_eq_some (wf_write h p s)]
  simp only [Memory.write, List.mem_append, List.mem_filter, decide_eq_true_eq, mem_cellsAt_iff]
  constructor
  · rintro ((⟨_, h⟩ | ⟨_, h⟩) | ⟨_, h⟩)
    · omega
    · exact h
    · omega
  · intro hv
    exact .inl (.inr ⟨ha, hv⟩)

/-! ### Slices -/

theorem slice_nil (a b : Nat) : Memory.slice [] a b = [] := rfl

theorem slice_cons (c : Host.Cell) (m : Memory) (a b : Nat) :
    Memory.slice (c :: m) a b = if a ≤ c.1 ∧ c.1 < b then c.2 :: Memory.slice m a b else Memory.slice m a b := by
  unfold Memory.slice
  by_cases h : a ≤ c.1 ∧ c.1 < b
  · simp [h]
  · rw [if_neg h, List.filter_cons_of_neg]
    simpa using h

theorem slice_empty {m : Memory} {a b : Nat} (h : b ≤ a) : m.slice a b = [] := by
  induction m with
  | nil => rfl
  | cons c m ih => rw [slice_cons, if_neg (by omega), ih]

/-- A slice splits at any place inside it. -/
theorem slice_split {m : Memory} (h : m.wf = true) {a b c : Nat} (hab : a ≤ b) (hbc : b ≤ c) :
    m.slice a c = m.slice a b ++ m.slice b c := by
  induction m with
  | nil => rfl
  | cons d m ih =>
    obtain ⟨hlt, hm⟩ := wf_cons.1 h
    rw [slice_cons, slice_cons, slice_cons, ih hm]
    by_cases h1 : d.1 < b
    · by_cases h2 : a ≤ d.1
      · rw [if_pos ⟨h2, by omega⟩, if_pos ⟨h2, h1⟩, if_neg (by omega), List.cons_append]
      · rw [if_neg (by omega), if_neg (by omega), if_neg (by omega)]
    · have he : Memory.slice m a b = [] := by
        rw [Memory.slice, List.map_eq_nil_iff]
        refine filter_none fun e he => ?_
        have := hlt e he
        simp; omega
      rw [he, if_neg (by omega : ¬(a ≤ d.1 ∧ d.1 < b))]
      by_cases h2 : d.1 < c
      · rw [if_pos ⟨by omega, h2⟩, if_pos ⟨by omega, h2⟩]; rfl
      · rw [if_neg (by omega), if_neg (by omega)]

theorem slice_length_le_from {k : Nat} {m : Memory} (h : Memory.risingFrom k m = true) (a b : Nat) :
    (m.slice a b).length ≤ b - max a k := by
  induction m generalizing k with
  | nil => simp [slice_nil]
  | cons c m ih =>
    simp only [Memory.risingFrom, Bool.and_eq_true, decide_eq_true_eq] at h
    have := ih h.2
    rw [slice_cons]
    split
    · simp only [List.length_cons]; omega
    · omega

/-- A slice is no longer than its window. -/
theorem slice_length_le {m : Memory} (h : m.wf = true) (a b : Nat) : (m.slice a b).length ≤ b - a := by
  have := slice_length_le_from h a b
  simpa using this

/-- A window with a value in every byte has one in every byte of each part. -/
theorem slice_length_sub {m : Memory} (h : m.wf = true) {a b c d : Nat} (hab : a ≤ b) (hbc : b ≤ c) (hcd : c ≤ d)
    (hl : (m.slice a d).length = d - a) : (m.slice b c).length = c - b := by
  have e1 := slice_split h hab (Nat.le_trans hbc hcd)
  have e2 := slice_split h hbc hcd
  have l1 := congrArg List.length e1
  have l2 := congrArg List.length e2
  simp only [List.length_append] at l1 l2
  have := slice_length_le h a b
  have := slice_length_le h b c
  have := slice_length_le h c d
  omega

/-- The later part of a full window is what is left of it. -/
theorem slice_drop {m : Memory} (h : m.wf = true) {a d n : Nat} (hn : a + n ≤ d)
    (hl : (m.slice a d).length = d - a) : m.slice (a + n) d = (m.slice a d).drop n := by
  have e := slice_split h (Nat.le_add_right a n) hn
  have l := slice_length_sub h (Nat.le_refl a) (Nat.le_add_right a n) hn hl
  rw [e, List.drop_append_of_le_length (by omega), List.drop_of_length_le (by omega), List.nil_append]

/-- The earlier part of a full window is the front of it. -/
theorem slice_take {m : Memory} (h : m.wf = true) {a d n : Nat} (hn : a + n ≤ d)
    (hl : (m.slice a d).length = d - a) : m.slice a (a + n) = (m.slice a d).take n := by
  have e := slice_split h (Nat.le_add_right a n) hn
  have l := slice_length_sub h (Nat.le_refl a) (Nat.le_add_right a n) hn hl
  rw [e, List.take_append_of_le_length (by omega), List.take_of_length_le (by omega)]

theorem mem_of_slice_one {m : Memory} {a : Nat} {v : Byte} (h : m.slice a (a + 1) = [v]) : (a, v) ∈ m := by
  have hv : v ∈ m.slice a (a + 1) := by rw [h]; exact List.mem_singleton.2 rfl
  obtain ⟨c, hc, rfl⟩ := List.mem_map.1 hv
  obtain ⟨hm, hb⟩ := List.mem_filter.1 hc
  simp only [Bool.and_eq_true, decide_eq_true_eq] at hb
  have : c.1 = a := by omega
  rw [← this]
  exact hm

/-- Byte `k` of a full window. -/
theorem read_of_slice {m : Memory} (h : m.wf = true) {a d k : Nat} (hk : a + k < d)
    (hl : (m.slice a d).length = d - a) : m.read (a + k) = (m.slice a d)[k]? := by
  have hone := slice_length_sub h (Nat.le_add_right a k) (Nat.le_succ (a + k)) hk hl
  rw [show (a + k).succ - (a + k) = 1 by omega, List.length_eq_one_iff] at hone
  obtain ⟨v, hv⟩ := hone
  rw [(read_eq_some h).2 (mem_of_slice_one hv)]
  have e1 := slice_drop h (Nat.le_of_lt hk) hl
  have e2 := slice_split h (Nat.le_succ (a + k)) hk
  rw [hv] at e2
  have : ((m.slice a d).drop k)[0]? = some v := by rw [← e1, e2]; rfl
  simpa [List.getElem?_drop] using this.symm

/-- Bytes laid down from `a` on fill the window they are laid in. -/
theorem slice_cellsAt (a : Nat) (s : List Byte) : (Memory.cellsAt a s).slice a (a + s.length) = s := by
  unfold Memory.slice
  rw [filter_cellsAt_all, cellsAt_snd]
  intro c h1 h2
  simp [h1, h2]

/-- A write right after a window extends it. -/
theorem slice_write_after (m : Memory) {a p : Nat} (s : List Byte) (h : a ≤ p) :
    (m.write p s).slice a (p + s.length) = m.slice a p ++ s := by
  unfold Memory.slice Memory.write
  rw [List.filter_append, List.filter_append, List.map_append, List.map_append, List.filter_filter,
    List.filter_filter]
  rw [filter_cellsAt_all (fun c h1 h2 => by simp; omega), cellsAt_snd]
  rw [List.filter_congr (q := fun c : Host.Cell => decide (a ≤ c.1) && decide (c.1 < p))
    (fun c _ => by rw [Bool.eq_iff_iff]; simp; omega)]
  rw [filter_none (m := m) (p := fun c => (decide (a ≤ c.1) && decide (c.1 < p + s.length)) &&
    decide (p + s.length ≤ c.1)) (fun c _ => by simp +contextual)]
  simp

/-- A write at the start of the heap is read back from there. -/
theorem slice_write_front (m : Memory) (s : List Byte) : (m.write 0 s).slice 0 s.length = s := by
  have := slice_write_after m (a := 0) s (Nat.le_refl 0)
  simpa [slice_empty] using this

/-- A one-byte write inside a window replaces that byte. -/
theorem slice_write_one {m : Memory} (h : m.wf = true) {a d k : Nat} (v : Byte) (hk : a + k < d)
    (hl : (m.slice a d).length = d - a) : (m.write (a + k) [v]).slice a d = (m.slice a d).set k v := by
  have hw := wf_write h (a + k) [v]
  have h1 : (m.write (a + k) [v]).slice a (a + k + 1) = m.slice a (a + k) ++ [v] :=
    slice_write_after m [v] (Nat.le_add_right a k)
  have h2 : (m.write (a + k) [v]).slice (a + k + 1) d = m.slice (a + k + 1) d := by
    unfold Memory.slice Memory.write
    rw [List.filter_append, List.filter_append, List.filter_filter, List.filter_filter]
    rw [filter_none (m := m) (fun c _ => by simp; omega),
      filter_none (m := Memory.cellsAt (a + k) [v])
        (fun c hc => by have := mem_cellsAt hc; simp at this ⊢; omega)]
    simp only [List.nil_append]
    refine congrArg _ (List.filter_congr fun c _ => ?_)
    rw [Bool.eq_iff_iff]; simp; omega
  rw [slice_split hw (Nat.le_trans (Nat.le_add_right a k) (Nat.le_succ _)) hk, h1, h2]
  have ht := slice_take h (Nat.le_of_lt hk) hl
  have hd := slice_drop h (n := k + 1) (by omega) hl
  rw [ht, show a + k + 1 = a + (k + 1) by omega, hd, List.append_assoc]
  refine (List.set_eq_take_append_cons_drop ..).trans ?_ |>.symm
  rw [if_pos (by omega)]
  rfl

end Sys2Proof.Machine
end

