-- ==== Sys2Proof/Laws/State.lean ====
section
/-! SUPPORT. What each record update leaves in each field. -/

namespace Sys2Proof.Machine

/-! ### `State.respond` -/

@[simp] theorem respond_cfg (s : State) (r : Response) : (s.respond r).cfg = s.cfg := rfl
@[simp] theorem respond_host (s : State) (r : Response) : (s.respond r).host = s.host := rfl
@[simp] theorem respond_x (s : State) (r : Response) : (s.respond r).x = s.x := rfl
@[simp] theorem respond_i (s : State) (r : Response) : (s.respond r).i = s.i := rfl
@[simp] theorem respond_responses (s : State) (r : Response) : (s.respond r).responses = s.responses ++ [r] := rfl

/-! ### Buffer updates that move cursors only -/

@[simp] theorem clear_heap (b : Buffer) : b.clear.heap = b.heap := rfl
@[simp] theorem clear_capacity (b : Buffer) : b.clear.capacity = b.capacity := rfl
@[simp] theorem clear_start (b : Buffer) : b.clear.start = 0 := rfl
@[simp] theorem clear_stop (b : Buffer) : b.clear.stop = 0 := rfl
@[simp] theorem clear_saved (b : Buffer) : b.clear.saved = b.saved := rfl
@[simp] theorem clear_size (b : Buffer) : b.clear.size = 0 := rfl

@[simp] theorem saveIndices_heap (b : Buffer) : b.saveIndices.heap = b.heap := rfl
@[simp] theorem saveIndices_capacity (b : Buffer) : b.saveIndices.capacity = b.capacity := rfl
@[simp] theorem saveIndices_start (b : Buffer) : b.saveIndices.start = b.start := rfl
@[simp] theorem saveIndices_stop (b : Buffer) : b.saveIndices.stop = b.stop := rfl
@[simp] theorem saveIndices_saved (b : Buffer) : b.saveIndices.saved = some (b.start, b.stop) := rfl
@[simp] theorem saveIndices_size (b : Buffer) : b.saveIndices.size = b.size := rfl
@[simp] theorem saveIndices_contents (b : Buffer) : b.saveIndices.contents = b.contents := rfl

@[simp] theorem dropStart_heap (b : Buffer) (n : Nat) : (b.dropStart n).heap = b.heap := by
  unfold Buffer.dropStart; split <;> [rfl; (split <;> rfl)]
@[simp] theorem dropStart_capacity (b : Buffer) (n : Nat) : (b.dropStart n).capacity = b.capacity := by
  unfold Buffer.dropStart; split <;> [rfl; (split <;> rfl)]
@[simp] theorem dropStart_saved (b : Buffer) (n : Nat) : (b.dropStart n).saved = b.saved := by
  unfold Buffer.dropStart; split <;> [rfl; (split <;> rfl)]
@[simp] theorem dropStart_zero (b : Buffer) : b.dropStart 0 = b := rfl

@[simp] theorem dropEnd_heap (b : Buffer) (n : Nat) : (b.dropEnd n).heap = b.heap := by
  unfold Buffer.dropEnd; split <;> [rfl; (split <;> rfl)]
@[simp] theorem dropEnd_capacity (b : Buffer) (n : Nat) : (b.dropEnd n).capacity = b.capacity := by
  unfold Buffer.dropEnd; split <;> [rfl; (split <;> rfl)]
@[simp] theorem dropEnd_saved (b : Buffer) (n : Nat) : (b.dropEnd n).saved = b.saved := by
  unfold Buffer.dropEnd; split <;> [rfl; (split <;> rfl)]

@[simp] theorem append_saved (b : Buffer) (s : List Byte) : (b.append s).saved = b.saved := by
  unfold Buffer.append; split <;> rfl

/-! ### `XUnit.commit` -/

@[simp] theorem commit_live (x : XUnit) (r : BitReader) : (x.commit r).live = x.live := rfl
@[simp] theorem commit_xstate (x : XUnit) (r : BitReader) : (x.commit r).xstate = x.xstate := rfl
@[simp] theorem commit_mode (x : XUnit) (r : BitReader) : (x.commit r).mode = x.mode := rfl
@[simp] theorem commit_dictBits (x : XUnit) (r : BitReader) : (x.commit r).dictBits = x.dictBits := rfl
@[simp] theorem commit_distMask (x : XUnit) (r : BitReader) : (x.commit r).distMask = x.distMask := rfl
@[simp] theorem commit_window (x : XUnit) (r : BitReader) : (x.commit r).window = x.window := rfl
@[simp] theorem commit_bitBuffer (x : XUnit) (r : BitReader) : (x.commit r).bitBuffer = r.bitBuffer := rfl
@[simp] theorem commit_extraBits (x : XUnit) (r : BitReader) : (x.commit r).extraBits = r.extraBits := rfl
@[simp] theorem commit_headerParsed (x : XUnit) (r : BitReader) : (x.commit r).headerParsed = x.headerParsed := rfl
@[simp] theorem commit_endOfStream (x : XUnit) (r : BitReader) : (x.commit r).endOfStream = x.endOfStream := rfl
@[simp] theorem commit_needMoreInput (x : XUnit) (r : BitReader) : (x.commit r).needMoreInput = x.needMoreInput := rfl
@[simp] theorem commit_snap (x : XUnit) (r : BitReader) : (x.commit r).snap = x.snap := rfl
@[simp] theorem commit_err (x : XUnit) (r : BitReader) : (x.commit r).err = x.err := rfl
@[simp] theorem commit_outBuf (x : XUnit) (r : BitReader) : (x.commit r).outBuf = x.outBuf := rfl
@[simp] theorem commit_tables (x : XUnit) (r : BitReader) : (x.commit r).tables = x.tables := rfl
@[simp] theorem commit_repeatLength (x : XUnit) (r : BitReader) : (x.commit r).repeatLength = x.repeatLength := rfl
@[simp] theorem commit_inBuf (x : XUnit) (r : BitReader) :
    (x.commit r).inBuf = x.inBuf.dropStart (x.inBuf.size - r.input.length) := rfl

/-! ### `XUnit.backup` -/

@[simp] theorem backup_live (x : XUnit) : x.backup.live = x.live := rfl
@[simp] theorem backup_xstate (x : XUnit) : x.backup.xstate = x.xstate := rfl
@[simp] theorem backup_mode (x : XUnit) : x.backup.mode = x.mode := rfl
@[simp] theorem backup_dictBits (x : XUnit) : x.backup.dictBits = x.dictBits := rfl
@[simp] theorem backup_distMask (x : XUnit) : x.backup.distMask = x.distMask := rfl
@[simp] theorem backup_window (x : XUnit) : x.backup.window = x.window := rfl
@[simp] theorem backup_bitBuffer (x : XUnit) : x.backup.bitBuffer = x.bitBuffer := rfl
@[simp] theorem backup_extraBits (x : XUnit) : x.backup.extraBits = x.extraBits := rfl
@[simp] theorem backup_headerParsed (x : XUnit) : x.backup.headerParsed = x.headerParsed := rfl
@[simp] theorem backup_endOfStream (x : XUnit) : x.backup.endOfStream = x.endOfStream := rfl
@[simp] theorem backup_needMoreInput (x : XUnit) : x.backup.needMoreInput = x.needMoreInput := rfl
@[simp] theorem backup_snap (x : XUnit) : x.backup.snap = some (x.bitBuffer, x.extraBits) := rfl
@[simp] theorem backup_err (x : XUnit) : x.backup.err = x.err := rfl
@[simp] theorem backup_inBuf (x : XUnit) : x.backup.inBuf = x.inBuf.saveIndices := rfl
@[simp] theorem backup_outBuf (x : XUnit) : x.backup.outBuf = x.outBuf := rfl
@[simp] theorem backup_tables (x : XUnit) : x.backup.tables = x.tables := rfl
@[simp] theorem backup_repeatLength (x : XUnit) : x.backup.repeatLength = x.repeatLength := rfl
@[simp] theorem backup_reader (x : XUnit) : x.backup.reader = x.reader := rfl

/-! ### `XUnit.complete` -/

@[simp] theorem complete_xstate (x : XUnit) : x.complete.xstate = .complete := rfl
@[simp] theorem complete_endOfStream (x : XUnit) : x.complete.endOfStream = true := rfl
@[simp] theorem complete_repeatLength (x : XUnit) : x.complete.repeatLength = none := rfl
@[simp] theorem complete_live (x : XUnit) : x.complete.live = x.live := rfl
@[simp] theorem complete_needMoreInput (x : XUnit) : x.complete.needMoreInput = x.needMoreInput := rfl
@[simp] theorem complete_headerParsed (x : XUnit) : x.complete.headerParsed = x.headerParsed := rfl
@[simp] theorem complete_err (x : XUnit) : x.complete.err = x.err := rfl
@[simp] theorem complete_inBuf (x : XUnit) : x.complete.inBuf = x.inBuf := rfl
@[simp] theorem complete_outBuf (x : XUnit) : x.complete.outBuf = x.outBuf := rfl
@[simp] theorem complete_tables (x : XUnit) : x.complete.tables = x.tables := rfl
@[simp] theorem complete_reader (x : XUnit) : x.complete.reader = x.reader := rfl
@[simp] theorem complete_mode (x : XUnit) : x.complete.mode = x.mode := rfl
@[simp] theorem complete_dictBits (x : XUnit) : x.complete.dictBits = x.dictBits := rfl
@[simp] theorem complete_distMask (x : XUnit) : x.complete.distMask = x.distMask := rfl
@[simp] theorem complete_window (x : XUnit) : x.complete.window = x.window := rfl

/-! ### The answers of operations that stop -/

@[simp] theorem andThen_next {α β : Type} (v : α) (k : α → Answer β) : andThen (.next v) k = k v := rfl
@[simp] theorem andThen_fault {α β : Type} (f : Fault) (k : α → Answer β) : andThen (.fault f) k = .fault f := rfl
@[simp] theorem andThen_refused {α β : Type} (r : Refusal) (k : α → Answer β) :
    andThen (.refused r) k = .refused r := rfl

/-- If a sequence of two operations answers, each of them did. -/
theorem andThen_eq_next {α β : Type} {a : Answer α} {k : α → Answer β} {w : β} :
    andThen a k = .next w ↔ ∃ v, a = .next v ∧ k v = .next w := by
  cases a <;> simp [andThen]

end Sys2Proof.Machine
end

