-- ==== Sys2Proof/Laws/Buffer.lean ====
section
/-! SUPPORT. What each buffer operation leaves: its effect on the contents (the abstract view of 40_buffer_ops.md rule
R140) and that it keeps the buffer well formed. -/

namespace Sys2Proof.Machine

/-! ### What well-formedness says -/

theorem buffer_wf_iff (b : Buffer) : b.wf = true ↔ b.start ≤ b.stop ∧ b.stop ≤ b.capacity ∧ b.heap.wf = true ∧
    (∀ c ∈ b.heap, c.1 < b.capacity) ∧ b.contents.length = b.size := by
  simp [Buffer.wf, and_assoc]

theorem buffer_new_wf : Buffer.new.wf = true := rfl

theorem length_contents {b : Buffer} (h : b.wf = true) : b.contents.length = b.size :=
  ((buffer_wf_iff b).1 h).2.2.2.2

theorem size_eq_zero_iff {b : Buffer} (h : b.wf = true) : b.size = 0 ↔ b.contents = [] := by
  rw [← length_contents h, List.length_eq_zero_iff]

@[simp] theorem contents_clear (b : Buffer) : b.clear.contents = [] := slice_empty (Nat.le_refl 0)

theorem wf_clear {b : Buffer} (h : b.wf = true) : b.clear.wf = true := by
  obtain ⟨_, _, h3, h4, _⟩ := (buffer_wf_iff b).1 h
  exact (buffer_wf_iff _).2 ⟨Nat.le_refl 0, Nat.zero_le _, h3, h4, by rw [contents_clear]; rfl⟩

theorem wf_saveIndices {b : Buffer} (h : b.wf = true) : b.saveIndices.wf = true := h

/-! ### `append` -/

/-- The two ways an append goes (R142). -/
theorem append_cases (b : Buffer) (s : List Byte) :
    (b.stop + s.length ≤ b.capacity ∧
      b.append s = { b with heap := b.heap.write b.stop s, stop := b.stop + s.length }) ∨
    (b.capacity < b.stop + s.length ∧
      b.append s = { b with heap := Memory.cellsAt 0 (b.contents ++ s), capacity := b.size + s.length, start := 0,
                            stop := b.size + s.length }) := by
  unfold Buffer.append
  split
  · exact .inl ⟨‹_›, rfl⟩
  · exact .inr ⟨by omega, rfl⟩

/-- An append adds its bytes at the end of the contents (R142). -/
theorem contents_append {b : Buffer} (h : b.wf = true) (s : List Byte) :
    (b.append s).contents = b.contents ++ s := by
  obtain ⟨h1, -, -, -, h5⟩ := (buffer_wf_iff b).1 h
  rcases append_cases b s with ⟨_, e⟩ | ⟨_, e⟩ <;> rw [e]
  · exact slice_write_after b.heap s h1
  · have := slice_cellsAt 0 (b.contents ++ s)
    rwa [List.length_append, h5, Nat.zero_add] at this

theorem size_append {b : Buffer} (h : b.wf = true) (s : List Byte) : (b.append s).size = b.size + s.length := by
  obtain ⟨h1, -, -, -, -⟩ := (buffer_wf_iff b).1 h
  rcases append_cases b s with ⟨_, e⟩ | ⟨_, e⟩ <;> rw [e]
  · simp only [Buffer.size]; omega
  · simp [Buffer.size]

theorem wf_append {b : Buffer} (h : b.wf = true) (s : List Byte) : (b.append s).wf = true := by
  have hc := contents_append h s
  have hs := size_append h s
  obtain ⟨h1, h2, h3, h4, h5⟩ := (buffer_wf_iff b).1 h
  refine (buffer_wf_iff _).2 ?_
  rw [hc, hs, List.length_append, h5]
  rcases append_cases b s with ⟨hfit, e⟩ | ⟨_, e⟩ <;> rw [e]
  · refine ⟨by simp only; omega, hfit, wf_write h3 _ _, fun c hc => ?_, rfl⟩
    rcases mem_write hc with hc | hc
    · exact h4 c hc
    · simp only; omega
  · refine ⟨Nat.zero_le _, Nat.le_refl _, wf_cellsAt _ _, fun c hc => ?_, rfl⟩
    have := (mem_cellsAt hc).2
    rw [List.length_append, h5] at this
    simp only; omega

/-! ### Reads -/

/-- A byte inside the contents is read as the contents have it (R145). -/
theorem readByte_eq {b : Buffer} (h : b.wf = true) {k : Nat} {v : Byte} (hv : b.contents[k]? = some v) :
    b.readByte k = .next v := by
  obtain ⟨h1, _, h3, _, h5⟩ := (buffer_wf_iff b).1 h
  have hk : k < b.size := by
    rw [← h5]; exact (List.getElem?_eq_some_iff.1 hv).1
  have hs : b.start + k < b.stop := by simp only [Buffer.size] at hk; omega
  unfold Buffer.readByte
  rw [if_pos hk, read_of_slice h3 hs h5, show Memory.slice b.heap b.start b.stop = b.contents from rfl, hv]

/-- What a read answers (R144): nothing, one byte, or several from a window whose bytes all have a value. -/
theorem read_eq_next {b : Buffer} {offset limit : Int} {r : Buffer.ReadResult} :
    b.read offset limit = .next r ↔
      ((offset < 0 ∨ limit ≤ 0) ∧ r = .empty) ∨
      (0 ≤ offset ∧ limit = 1 ∧ ∃ v, b.readByte offset.toNat = .next v ∧ r = .one v) ∨
      (0 ≤ offset ∧ 1 < limit ∧ b.contents.length = b.size ∧
        r = .many ((b.contents.drop offset.toNat).take limit.toNat)) := by
  unfold Buffer.read
  by_cases h : offset < 0 ∨ limit ≤ 0
  · simp only [h, if_true, Host.Outcome.next.injEq, true_and]
    constructor
    · rintro rfl; exact .inl rfl
    · rintro (rfl | ⟨_, _, _⟩ | ⟨_, _, _⟩)
      · rfl
      · omega
      · omega
  · rw [if_neg h]
    by_cases h1 : limit = 1
    · rw [if_pos h1, andThen_eq_next]
      constructor
      · rintro ⟨v, hv, e⟩
        exact .inr (.inl ⟨by omega, h1, v, hv, (Host.Outcome.next.inj e).symm⟩)
      · rintro (⟨h', _⟩ | ⟨_, _, v, hv, rfl⟩ | ⟨_, _, _⟩)
        · exact absurd h' h
        · exact ⟨v, hv, rfl⟩
        · omega
    · rw [if_neg h1]
      by_cases h2 : b.contents.length = b.size
      · rw [if_pos h2]
        constructor
        · intro e
          exact .inr (.inr ⟨by omega, by omega, h2, (Host.Outcome.next.inj e).symm⟩)
        · rintro (⟨h', _⟩ | ⟨_, h', _⟩ | ⟨_, _, _, rfl⟩)
          · exact absurd h' h
          · exact absurd h' h1
          · rfl
      · rw [if_neg h2]
        constructor
        · intro e; cases e
        · rintro (⟨h', _⟩ | ⟨_, h', _⟩ | ⟨_, _, h', _⟩)
          · exact absurd h' h
          · exact absurd h' h1
          · exact absurd h' h2

/-- `Read(B, 0, n)` is the first `n` bytes of the contents, or all of them (R144). -/
theorem readBytes_zero {b : Buffer} (h : b.wf = true) {n : Nat} (hn : n ≤ b.size) :
    b.readBytes 0 n = .next (b.contents.take n) := by
  have h5 := length_contents h
  unfold Buffer.readBytes Buffer.read
  rcases Nat.eq_zero_or_pos n with rfl | hpos
  · rw [if_pos (by simp)]; rfl
  · rw [if_neg (by simp; omega)]
    by_cases h1 : (n : Int) = 1
    · have e1 : n = 1 := by exact_mod_cast h1
      subst e1
      obtain ⟨v, hv⟩ : ∃ v, b.contents[0]? = some v := ⟨_, List.getElem?_eq_getElem (by omega)⟩
      rw [if_pos h1, show (((0 : Nat) : Int)).toNat = 0 from rfl, readByte_eq h hv]
      obtain ⟨rest, hr⟩ : ∃ rest, b.contents = v :: rest := by
        cases hc : b.contents with
        | nil => rw [hc] at hv; simp at hv
        | cons w rest => rw [hc] at hv; exact ⟨rest, by simpa using hv⟩
      rw [hr]; rfl
    · rw [if_neg h1, if_pos h5]; rfl

/-- A `Read` of everything is the contents. -/
theorem readBytes_all {b : Buffer} (h : b.wf = true) : b.readBytes 0 b.size = .next b.contents := by
  rw [readBytes_zero h (Nat.le_refl _), List.take_of_length_le (Nat.le_of_eq (length_contents h))]

/-! ### Deletes from the start -/

/-- `dropStart` removes bytes from the front of the contents (R148). -/
theorem contents_dropStart {b : Buffer} (h : b.wf = true) (n : Nat) : (b.dropStart n).contents = b.contents.drop n := by
  obtain ⟨h1, _, h3, _, h5⟩ := (buffer_wf_iff b).1 h
  unfold Buffer.dropStart
  split
  · simp [*]
  · split
    · rw [contents_clear, List.drop_of_length_le]
      rw [h5, Buffer.size]; omega
    · exact slice_drop (d := b.stop) h3 (by omega) h5

theorem size_dropStart (b : Buffer) (n : Nat) : (b.dropStart n).size = b.size - n := by
  unfold Buffer.dropStart
  split
  · simp [*]
  · split
    · rw [clear_size, Buffer.size]; omega
    · simp only [Buffer.size]; omega

theorem wf_dropStart {b : Buffer} (h : b.wf = true) (n : Nat) : (b.dropStart n).wf = true := by
  have hc := contents_dropStart h n
  have hs := size_dropStart b n
  obtain ⟨h1, h2, h3, h4, h5⟩ := (buffer_wf_iff b).1 h
  refine (buffer_wf_iff _).2 ⟨?_, ?_, by rw [dropStart_heap]; exact h3, by simpa using h4, ?_⟩
  · unfold Buffer.dropStart; split <;> [exact h1; (split <;> [exact Nat.le_refl 0; (simp only; omega)])]
  · rw [dropStart_capacity]
    unfold Buffer.dropStart; split <;> [exact h2; (split <;> [exact Nat.zero_le _; exact h2])]
  · rw [hc, hs, List.length_drop, h5]

/-- The clamp leaves a count that the buffer has as it is (R146, R147). -/
theorem flushCount_of_le {b : Buffer} (h : b.wf = true) {n : Nat} (hn : n ≤ b.size) : b.flushCount n = n := by
  obtain ⟨h1, h2, -⟩ := (buffer_wf_iff b).1 h
  simp only [Buffer.size] at hn
  simp only [Buffer.flushCount]
  omega

/-- A negative operand of a hard delete acts as 0 (R146, R147). -/
theorem flushCount_of_nonpos {b : Buffer} {n : Int} (hn : n ≤ 0) : b.flushCount n = 0 := by
  simp only [Buffer.flushCount]
  omega

/-- `flushStart` of no more than the contents removes them from the front, and keeps the capacity (R146). -/
theorem flushStart_eq {b : Buffer} (h : b.wf = true) {n : Nat} (hn : n ≤ b.size) :
    ∃ b', b.flushStart n = .next b' ∧ b'.contents = b.contents.drop n ∧ b'.wf = true ∧ b'.capacity = b.capacity ∧
      b'.saved = b.saved ∧ (n = 0 → b' = b) ∧ (0 < n → b'.start = 0 ∧ b'.stop = b.size - n) := by
  obtain ⟨h1, h2, h3, h4, h5⟩ := (buffer_wf_iff b).1 h
  unfold Buffer.flushStart
  simp only [flushCount_of_le h hn]
  rcases Nat.eq_zero_or_pos n with rfl | hpos
  · exact ⟨b, by simp, by simp, h, rfl, rfl, fun _ => rfl, fun h => absurd h (Nat.lt_irrefl 0)⟩
  · rw [if_neg (by omega), if_neg (by omega)]
    have hlen : (b.contents.drop n).length = b.stop - b.start - n := by rw [List.length_drop, h5]; rfl
    have hcon : Memory.slice (b.heap.write 0 (b.contents.drop n)) 0 (b.stop - b.start - n) = b.contents.drop n := by
      rw [← hlen]; exact slice_write_front _ _
    refine ⟨_, rfl, hcon, (buffer_wf_iff _).2 ⟨Nat.zero_le _, ?_, wf_write h3 _ _, fun c hc => ?_, ?_⟩, rfl, rfl,
      fun h => absurd h (by omega), fun _ => ⟨rfl, rfl⟩⟩
    · simp only [Buffer.size] at hn; simp only; omega
    · rcases mem_write hc with hc | hc
      · exact h4 c hc
      · rw [hlen] at hc; simp only; omega
    · rw [Buffer.contents, hcon, hlen]; rfl

/-! ### `setByte` -/

/-- `setByte(-1, v)` replaces the last byte (R151). -/
theorem setByte_last {b : Buffer} (h : b.wf = true) (hs : 0 < b.size) (v : Byte) :
    ∃ b', b.setByte (-1) v = .next b' ∧ b'.contents = b.contents.set (b.size - 1) v ∧ b'.wf = true ∧
      b'.size = b.size ∧ b'.capacity = b.capacity ∧ b'.saved = b.saved := by
  obtain ⟨h1, h2, h3, h4, h5⟩ := (buffer_wf_iff b).1 h
  unfold Buffer.setByte
  rw [if_neg (by omega), if_pos (by constructor <;> [decide; (simp only [Buffer.size] at hs ⊢; omega)])]
  have e : b.stop - (-(-1 : Int)).toNat = b.start + (b.size - 1) := by simp only [Buffer.size] at hs ⊢; simp; omega
  rw [e]
  have hcon : Memory.slice (b.heap.write (b.start + (b.size - 1)) [v]) b.start b.stop = b.contents.set (b.size - 1) v :=
    slice_write_one h3 v (by simp only [Buffer.size] at hs ⊢; omega) h5
  refine ⟨_, rfl, hcon, (buffer_wf_iff _).2 ⟨h1, h2, wf_write h3 _ _, fun c hc => ?_, ?_⟩, rfl, rfl, rfl⟩
  · rcases mem_write hc with hc | hc
    · exact h4 c hc
    · simp only [Buffer.size, List.length_singleton] at hs hc ⊢; omega
  · rw [Buffer.contents, hcon, List.length_set, h5]; rfl

/-! ### Rollback -/

/-- What `restoreIndices` answers (R152). -/
theorem restoreIndices_eq_next {b b' : Buffer} :
    b.restoreIndices = .next b' ↔ ∃ p, b.saved = some p ∧ b' = { b with start := p.1, stop := p.2 } := by
  unfold Buffer.restoreIndices
  split
  · rename_i start stop e
    simp [e, eq_comm]
  · rename_i e
    simp [e]

/-- Soft deletes after a save are undone by the restore (R152). -/
theorem restoreIndices_dropStart (b : Buffer) (n : Nat) :
    (b.saveIndices.dropStart n).restoreIndices = .next b.saveIndices := by
  rw [restoreIndices_eq_next]
  refine ⟨(b.start, b.stop), by simp, ?_⟩
  have hh := dropStart_heap b.saveIndices n
  have hc := dropStart_capacity b.saveIndices n
  have hs := dropStart_saved b.saveIndices n
  cases hb : b.saveIndices.dropStart n
  rw [hb] at hh hc hs
  simp only at hh hc hs
  subst hh hc hs
  rfl

/-! ### The other deletes -/

theorem contents_dropEnd {b : Buffer} (h : b.wf = true) (n : Nat) :
    (b.dropEnd n).contents = b.contents.take (b.size - n) := by
  obtain ⟨h1, _, h3, _, h5⟩ := (buffer_wf_iff b).1 h
  unfold Buffer.dropEnd
  split
  · subst n; rw [List.take_of_length_le (by omega)]
  · split
    · rw [contents_clear, show b.size - n = 0 by simp only [Buffer.size]; omega, List.take_zero]
    · have := slice_take h3 (n := b.size - n) (d := b.stop) (a := b.start) (by simp only [Buffer.size]; omega) h5
      rw [show b.start + (b.size - n) = b.stop - n by simp only [Buffer.size]; omega] at this
      exact this

theorem wf_dropEnd {b : Buffer} (h : b.wf = true) (n : Nat) : (b.dropEnd n).wf = true := by
  have hc := contents_dropEnd h n
  obtain ⟨h1, h2, h3, h4, h5⟩ := (buffer_wf_iff b).1 h
  refine (buffer_wf_iff _).2 ⟨?_, ?_, by rw [dropEnd_heap]; exact h3, by simpa using h4, ?_⟩
  · unfold Buffer.dropEnd; split <;> [exact h1; (split <;> [exact Nat.le_refl 0; (simp only; omega)])]
  · rw [dropEnd_capacity]
    unfold Buffer.dropEnd; split <;> [exact h2; (split <;> [exact Nat.zero_le _; (simp only; omega)])]
  · rw [hc, List.length_take, h5]
    unfold Buffer.dropEnd
    split
    · subst n; simp
    · split
      · rw [clear_size, Buffer.size]; omega
      · simp only [Buffer.size]; omega

/-- `flushEnd` of no more than the contents removes them from the end, and moves no byte (R147). -/
theorem flushEnd_eq {b : Buffer} (h : b.wf = true) {n : Nat} (hn : n ≤ b.size) :
    ∃ b', b.flushEnd n = .next b' ∧ b' = { b with stop := b.stop - n } ∧
      b'.contents = b.contents.take (b.size - n) ∧ b'.wf = true := by
  obtain ⟨h1, h2, h3, h4, h5⟩ := (buffer_wf_iff b).1 h
  have he : b.flushEnd n = .next { b with stop := b.stop - n } := by
    unfold Buffer.flushEnd
    simp only [flushCount_of_le h hn]
    rcases Nat.eq_zero_or_pos n with rfl | hpos
    · simp
    · rw [if_neg (by omega), if_neg (by omega)]
  have ht := slice_take h3 (n := b.size - n) (d := b.stop) (a := b.start) (by simp only [Buffer.size]; omega) h5
  rw [show b.start + (b.size - n) = b.stop - n by simp only [Buffer.size] at hn ⊢; omega] at ht
  refine ⟨_, he, rfl, ht, (buffer_wf_iff _).2 ⟨?_, ?_, h3, h4, ?_⟩⟩
  · simp only [Buffer.size] at hn ⊢; omega
  · simp only; omega
  · rw [Buffer.contents, ht, List.length_take, show (Memory.slice b.heap b.start b.stop).length = b.size from h5]
    simp only [Buffer.size] at hn ⊢; omega

/-- A hard delete of more than the contents is refused (R146, R147, R156). -/
theorem flush_refused {b : Buffer} {n : Int} (h : b.size < b.flushCount n) :
    b.flushStart n = .refused .bufferPrecondition ∧ b.flushEnd n = .refused .bufferPrecondition := by
  unfold Buffer.flushStart Buffer.flushEnd
  simp only
  exact ⟨by rw [if_neg (by omega), if_pos h], by rw [if_neg (by omega), if_pos h]⟩

end Sys2Proof.Machine
end

