-- ==== Sys2Proof/Laws/Tables.lean ====
section
/-! SUPPORT. The Static Code Tables: what legal tables give, the default tables are legal (30_encoding.md rule R119,
41_code_tables.md rule R170), and the tables written out in Machine/Tables.lean are what their generators build (rules R163
and R166), so that a unit's tables are always the generators'. -/

namespace Sys2Proof

-- One kernel check at a time: each of these is long, and those waiting behind it would each hold a thread.
set_option Elab.async false

/-! ### The tables written out -/

/-- `lengthCodes = generateDecodeTables(LenCode, LenBits)` (R163). -/
theorem lengthCodesTable_generated : lengthCodesTable = generateDecodeTables 256 Rom.lenCode Rom.lenBits :=
  eq_of_beq (by decide +kernel)

/-- `distPosCodes = generateDecodeTables(DistCode, DistBits)` (R163). -/
theorem distPosCodesTable_generated : distPosCodesTable = generateDecodeTables 256 Rom.distCode Rom.distBits :=
  eq_of_beq (by decide +kernel)

theorem asciiTables_2C34 : asciiTables.table2C34 = (generateAsciiTables CodeTables.standard).table2C34 :=
  eq_of_beq (by decide +kernel)
theorem asciiTables_2D34 : asciiTables.table2D34 = (generateAsciiTables CodeTables.standard).table2D34 :=
  eq_of_beq (by decide +kernel)
theorem asciiTables_2E34 : asciiTables.table2E34 = (generateAsciiTables CodeTables.standard).table2E34 :=
  eq_of_beq (by decide +kernel)
theorem asciiTables_2EB4 : asciiTables.table2EB4 = (generateAsciiTables CodeTables.standard).table2EB4 :=
  eq_of_beq (by decide +kernel)
theorem asciiTables_chBitsAsc : asciiTables.chBitsAsc = (generateAsciiTables CodeTables.standard).chBitsAsc :=
  eq_of_beq (by decide +kernel)

/-- `asciiTables` is what `generateAsciiTables()` builds of the default tables (R166). -/
theorem asciiTables_generated : asciiTables = generateAsciiTables CodeTables.standard := by
  have h1 := asciiTables_2C34
  have h2 := asciiTables_2D34
  have h3 := asciiTables_2E34
  have h4 := asciiTables_2EB4
  have h5 := asciiTables_chBitsAsc
  generalize asciiTables = a at *
  generalize generateAsciiTables CodeTables.standard = g at *
  cases a; cases g
  simp_all

/-- A unit's length table is the generator's, whatever the Static Code Tables are (R163). -/
theorem lengthCodesOf_eq (k : CodeTables) : lengthCodesOf k = generateDecodeTables 256 k.lenCode k.lenBits := by
  cases k with
  | standard => exact lengthCodesTable_generated
  | substitute v => rfl

/-- The same of the distance-position table (R163). -/
theorem distPosCodesOf_eq (k : CodeTables) : distPosCodesOf k = generateDecodeTables 256 k.distCode k.distBits := by
  cases k with
  | standard => exact distPosCodesTable_generated
  | substitute v => rfl

/-- The same of the ASCII tables (R166). -/
theorem asciiTablesOf_eq (k : CodeTables) : asciiTablesOf k = generateAsciiTables k := by
  cases k with
  | standard => exact asciiTables_generated
  | substitute v => rfl

/-! ### The default tables are legal -/

theorem standard_asciiPrefixFree : prefixFree CodeTables.standard.asciiFamily = true := by decide +kernel

/-- The default tables satisfy all eight items of R119. -/
theorem standard_constrained : CodeTables.standard.constrained = true := by
  unfold CodeTables.constrained
  rw [standard_asciiPrefixFree]
  decide +kernel

theorem standard_keepsSymbols : (List.range 256).all (asciiTables.keepsSymbol CodeTables.standard) = true := by
  decide +kernel

theorem standard_walksRight : asciiTables.walksRight CodeTables.standard = true := by decide +kernel

/-- The default tables are legal (R119, R170). -/
theorem standard_legal : CodeTables.standard.legal = true := by
  unfold CodeTables.legal CodeTables.asciiReady
  rw [standard_constrained, ← asciiTables_generated, standard_keepsSymbols, standard_walksRight]
  decide +kernel

/-- The default families leave no slot of the dense tables unwritten (R163). -/
theorem standard_complete : CodeTables.standard.complete = true := by decide +kernel

/-- A RESET checks legality, no less (U10). -/
@[simp] theorem admitted_eq_legal (k : CodeTables) : k.admitted = k.legal := by
  cases k with
  | standard => exact standard_legal.symm
  | substitute v => rfl

theorem standard_config_legal : Config.standard.legal = true := by
  unfold Config.legal
  rw [show Config.standard.tables = CodeTables.standard from rfl, standard_legal]
  decide

/-- Built with the default parameters the block starts as `State.reset` says. -/
theorem resetWith_standard : Machine.State.resetWith Config.standard = Machine.State.reset := by
  have h : Config.standard.tables.admitted = true := (admitted_eq_legal _).trans standard_legal
  unfold Machine.State.resetWith
  rw [h]
  rfl

/-! ### What legal tables give -/

/-- The properties of R170 are about the Ascii tables alone. -/
theorem asciiReady_congr {k k' : CodeTables} (hb : k.chBitsAsc = k'.chBitsAsc) (hc : k.chCodeAsc = k'.chCodeAsc) :
    k.asciiReady = k'.asciiReady := by
  have hg : generateAsciiTables k = generateAsciiTables k' := by rw [generateAsciiTables, generateAsciiTables, hb, hc]
  have hk : AsciiTables.keepsSymbol k = AsciiTables.keepsSymbol k' := by
    funext t i
    simp only [AsciiTables.keepsSymbol, hb, hc]
  have hf : AsciiTables.finds k = AsciiTables.finds k' := by
    funext t entry shift x
    simp only [AsciiTables.finds, hb, hc]
  simp only [CodeTables.asciiReady, AsciiTables.walksRight, hg, hk, hf]

/-- Legality is R119's items, R37's widths and R170's properties. -/
theorem legal_iff (k : CodeTables) :
    k.legal = true ↔ k.constrained = true ∧ k.widthsFit = true ∧ k.asciiReady = true := by
  simp [CodeTables.legal, and_assoc]

/-- R119 item by item. -/
theorem constrained_iff (k : CodeTables) :
    k.constrained = true ↔ k.sized = true ∧ codesFit 8 k.lengthFamily = true ∧ codesFit 8 k.distanceFamily = true ∧
      codesFit 16 k.asciiFamily = true ∧ prefixFree k.lengthFamily = true ∧ prefixFree k.distanceFamily = true ∧
      prefixFree k.asciiFamily = true ∧ k.lengthsTile = true ∧ k.asciiFamily.all residualFits = true := by
  simp [CodeTables.constrained, and_assoc]

theorem sized_iff (k : CodeTables) :
    k.sized = true ↔ k.lenBits.length = 16 ∧ k.lenCode.length = 16 ∧ k.exLenBits.length = 16 ∧ k.lenBase.length = 16 ∧
      k.distBits.length = 64 ∧ k.distCode.length = 64 ∧ k.chBitsAsc.length = 256 ∧ k.chCodeAsc.length = 256 := by
  simp [CodeTables.sized, and_assoc]

/-- R119 items 4 to 6. -/
theorem lengthsTile_iff (k : CodeTables) :
    k.lengthsTile = true ↔ tiles 0 k.lenBase k.exLenBits = true ∧ k.exLenBits[15]? = some 8 ∧
      k.lenBase[15]? = some 0x106 ∧ k.lenBase[0]? = some 0 ∧ k.exLenBits[0]? = some 0 := by
  simp [CodeTables.lengthsTile, and_assoc]

/-- A code of a family that fits has no bit above its width; past the family's end there is no bit at all. -/
theorem code_lt_of_codesFit {most : Nat} {widths codes : List Nat} (hl : widths.length = codes.length)
    (h : codesFit most (widths.zip codes) = true) (c : Nat) : codes.getD c 0 < 2 ^ widths.getD c 0 := by
  by_cases hc : c < codes.length
  · have hw : c < widths.length := hl ▸ hc
    have hm : (widths[c], codes[c]) ∈ widths.zip codes := by
      rw [← List.getElem_zip (h := by simpa [hl] using hc)]
      exact List.getElem_mem _
    have := List.all_eq_true.1 h _ hm
    simp only [Bool.and_eq_true, decide_eq_true_eq] at this
    rw [List.getD_eq_getElem _ _ hc, List.getD_eq_getElem _ _ hw]
    exact this.2
  · rw [List.getD_eq_default _ _ (Nat.not_lt.1 hc)]
    exact Nat.two_pow_pos _

/-- Every code of legal tables has no bit above its width (R119 items 2 and 7). -/
theorem legal_code_lt {k : CodeTables} (h : k.legal = true) (c : Nat) :
    k.lenCode.getD c 0 < 2 ^ k.lenBits.getD c 0 ∧ k.distCode.getD c 0 < 2 ^ k.distBits.getD c 0 ∧
      k.chCodeAsc.getD c 0 < 2 ^ k.chBitsAsc.getD c 0 := by
  obtain ⟨hs, h1, h2, h3, -⟩ := (constrained_iff k).1 ((legal_iff k).1 h).1
  obtain ⟨l1, l2, -, -, l3, l4, l5, l6⟩ := (sized_iff k).1 hs
  exact ⟨code_lt_of_codesFit (l1.trans l2.symm) h1 c, code_lt_of_codesFit (l3.trans l4.symm) h2 c,
    code_lt_of_codesFit (l5.trans l6.symm) h3 c⟩

/-- END's code has 8 extra bits, above 0x105 lengths (R119 item 5); token 0x100 is code 0 alone (item 6). -/
theorem legal_ends {k : CodeTables} (h : k.legal = true) :
    k.exLenBits.getD 15 0 = 8 ∧ k.lenBase.getD 15 0 = 0x106 ∧ k.lenBase.getD 0 0 = 0 ∧ k.exLenBits.getD 0 0 = 0 := by
  obtain ⟨-, -, -, -, -, -, -, ht, -⟩ := (constrained_iff k).1 ((legal_iff k).1 h).1
  obtain ⟨-, h1, h2, h3, h4⟩ := (lengthsTile_iff k).1 ht
  simp [h1, h2, h3, h4]

end Sys2Proof
end

