-- ==== Sys2Proof/Laws/Ops.lean ====
section
/-! SUPPORT. What each shared operation can answer: one inversion lemma per operation ("if it answers, then ..."). -/

namespace Sys2Proof.Machine

/-! ### The drain and the errors -/

/-- What a drain answers (R283, R284). -/
theorem drain_eq_next {block : Nat} {b b' : Buffer} {out : List Byte} :
    drain block b = .next (b', out) ↔
      (b.size ≤ block ∧ b' = b ∧ out = []) ∨
      (block < b.size ∧ b.readBytes 0 (drainCount block b.size) = .next out ∧
        b.flushStart (drainCount block b.size) = .next b') := by
  unfold drain
  split
  · rename_i h
    simp only [andThen_eq_next, Host.Outcome.next.injEq, Prod.mk.injEq, h, true_and]
    constructor
    · rintro ⟨o, ho, c, hc, rfl, rfl⟩
      exact .inr ⟨ho, hc⟩
    · rintro (⟨h', _⟩ | ⟨ho, hc⟩)
      · omega
      · exact ⟨_, ho, _, hc, rfl, rfl⟩
  · rename_i h
    simp only [Host.Outcome.next.injEq, Prod.mk.injEq]
    constructor
    · rintro ⟨rfl, rfl⟩; exact .inl ⟨by omega, rfl, rfl⟩
    · rintro (⟨_, rfl, rfl⟩ | ⟨h', _⟩)
      · exact ⟨rfl, rfl⟩
      · exact absurd h' h

theorem drainCount_le (block size : Nat) : drainCount block size ≤ size := by
  unfold drainCount
  split
  · calc (size / block - 1) * block ≤ size / block * block := Nat.mul_le_mul_right _ (Nat.sub_le _ _)
      _ ≤ size := Nat.div_mul_le_self _ _
  · exact Nat.zero_le _

/-- What a RESET answers: only with legal Static Code Tables (U10). -/
theorem withLegalTables_eq_next {s t : State} {k : Answer State} :
    withLegalTables s k = .next t ↔ s.cfg.tables.legal = true ∧ k = .next t := by
  unfold withLegalTables
  rw [admitted_eq_legal]
  cases s.cfg.tables.legal <;> simp

/-- With Static Code Tables that violate a constraint a RESET is refused (U10). -/
theorem withLegalTables_refused {s : State} {k : Answer State} (h : s.cfg.tables.legal = false) :
    withLegalTables s k = .refused .illegalTables := by
  unfold withLegalTables
  rw [admitted_eq_legal, h]
  rfl

/-- What an error of the EXPLODE unit leaves (R307). -/
theorem raiseX_eq_next {k : ErrorCode} {s t : State} :
    raiseX k s = .next t ↔ ∃ out, s.x.outBuf.readBytes 0 s.x.outBuf.size = .next out ∧
      t = ({ s with x := { s.x with
        err := k, outBuf := s.x.outBuf.clear, xstate := .error, needMoreInput := false, repeatLength := none } } :
          State).respond ⟨.error, k, out⟩ := by
  unfold raiseX
  rw [andThen_eq_next]
  simp only [Host.Outcome.next.injEq, eq_comm]

/-- What an error of the IMPLODE unit leaves (R307). -/
theorem raiseI_eq_next {k : ErrorCode} {s t : State} :
    raiseI k s = .next t ↔ ∃ out, s.i.outBuf.readBytes 0 s.i.outBuf.size = .next out ∧
      t = ({ s with i := { s.i with err := k, outBuf := s.i.outBuf.clear, istate := .error } } : State).respond
        ⟨.error, k, out⟩ := by
  unfold raiseI
  rw [andThen_eq_next]
  simp only [Host.Outcome.next.injEq, eq_comm]

/-! ### The EXPLODE unit -/

/-- What `restore()` answers (R213). -/
theorem restore_eq_next {x x' : XUnit} :
    x.restore = .next x' ↔ ∃ p q, x.snap = some p ∧ x.inBuf.saved = some q ∧
      x' = { x with bitBuffer := p.1, extraBits := p.2, inBuf := { x.inBuf with start := q.1, stop := q.2 } } := by
  unfold XUnit.restore
  split
  · rename_i bitBuffer extraBits e
    simp only [andThen_eq_next, restoreIndices_eq_next, Host.Outcome.next.injEq, e, Option.some.injEq]
    constructor
    · rintro ⟨b, ⟨q, hq, rfl⟩, rfl⟩
      exact ⟨_, q, rfl, hq, rfl⟩
    · rintro ⟨p, q, rfl, hq, rfl⟩
      exact ⟨_, ⟨q, hq, rfl⟩, rfl⟩
  · rename_i e
    simp [e]

/-- What `suspend()` answers (R213). -/
theorem suspend_eq_next {x x' : XUnit} :
    x.suspend = .next x' ↔ ∃ y, x.restore = .next y ∧
      x' = { y with xstate := .suspended, needMoreInput := true, repeatLength := none } := by
  unfold XUnit.suspend
  rw [andThen_eq_next]
  simp only [Host.Outcome.next.injEq, eq_comm]

/-- How a push ends (R203). -/
theorem finishPush_eq_next {s t : State} :
    finishPush s = .next t ↔ ∃ b out, drain s.cfg.blockX s.x.outBuf = .next (b, out) ∧
      t = ({ s with x := { s.x with outBuf := b } } : State).respond ⟨s.x.xstate.status, .none, out⟩ := by
  unfold finishPush
  rw [andThen_eq_next]
  simp only [Prod.exists, Host.Outcome.next.injEq, eq_comm]

/-- How a push whose token lacks input ends (R206, R213). -/
theorem suspendPush_eq_next {s t : State} :
    suspendPush s = .next t ↔ ∃ x, s.x.suspend = .next x ∧ finishPush { s with x := x } = .next t := by
  unfold suspendPush
  rw [andThen_eq_next]

/-- What the execution of a decoded token leaves (R206, R207, R212). -/
theorem executeToken_eq_next {n : Nat} {s t : State} :
    executeToken n s = .next t ↔ s.x.xstate = .decoding ∧
      ((n = endTokenNumber ∧ finishPush { s with x := s.x.complete } = .next t) ∨
       (n ≠ endTokenNumber ∧ 0x100 ≤ n ∧ t = { s with x := { s.x with repeatLength := some (repeatLengthOf n) } }) ∨
       (n < 0x100 ∧ t = { s with x := { s.x with outBuf := s.x.outBuf.append [BitVec.ofNat 8 n] } })) := by
  unfold executeToken inDecoding
  split
  · rename_i hd
    simp only [hd, true_and]
    by_cases h1 : n = endTokenNumber
    · rw [if_pos h1]
      subst h1
      simp [show ¬endTokenNumber < 0x100 by decide]
    · rw [if_neg h1]
      by_cases h2 : 0x100 ≤ n
      · rw [if_pos h2]
        simp only [Host.Outcome.next.injEq, h1, h2, false_and, false_or, ne_eq, not_false_eq_true, true_and,
          Nat.not_lt.2 h2, or_false, eq_comm]
      · rw [if_neg h2]
        simp only [Host.Outcome.next.injEq, h1, h2, false_and, false_or, and_false, Nat.not_le.1 h2, true_and,
          eq_comm]
  · rename_i hd
    simp [hd]

/-- What the execution of a distance part leaves (R192, R210, R211). -/
theorem executeDistance_eq_next {p : Nat} {low : BitVec 6} {s t : State} :
    executeDistance p low s = .next t ↔ s.x.xstate = .decoding ∧ ∃ n, s.x.repeatLength = some n ∧
      ((s.x.outBuf.size < trueDistance n s.x.dictBits p low.toNat ∧ raiseX .distanceBeyondHistory s = .next t) ∨
       (trueDistance n s.x.dictBits p low.toNat ≤ s.x.outBuf.size ∧
        ∃ bytes, copiedBytes s.x.outBuf.contents n (trueDistance n s.x.dictBits p low.toNat) = some bytes ∧
          t = { s with x := { s.x with outBuf := s.x.outBuf.append bytes, repeatLength := none } })) := by
  unfold executeDistance inDecoding
  split
  · rename_i hd
    simp only [hd, true_and]
    split
    · rename_i e; simp [e]
    · rename_i n e
      simp only [e, Option.some.injEq, exists_eq_left']
      by_cases h : s.x.outBuf.size < trueDistance n s.x.dictBits p low.toNat
      · rw [if_pos h]
        simp [h, Nat.not_le.2 h]
      · rw [if_neg h]
        simp only [h, false_and, false_or, Nat.not_lt.1 h, true_and]
        split
        · rename_i e'; simp [e']
        · rename_i bytes e'
          simp [e', eq_comm]
  · rename_i hd
    simp [hd]

/-- What the execution of a header leaves (R205, R310). -/
theorem parseHeader_eq_next {m d seed : Byte} {s t : State} :
    parseHeader m d seed s = .next t ↔ (s.x.xstate = .awaitingHeader ∧ 4 ≤ s.x.inBuf.size) ∧
      ((CompressionMode.ofByte m = none ∧ raiseX .invalidCompressionType s = .next t) ∨
       ∃ mode, CompressionMode.ofByte m = some mode ∧
        ((DictionarySize.ofByte d = none ∧ raiseX .invalidDictionarySize s = .next t) ∨
         ∃ dict, DictionarySize.ofByte d = some dict ∧
          t = { s with x := { s.x with
            mode := mode, dictBits := dict, bitBuffer := seed.setWidth 16, extraBits := 0
            inBuf := s.x.inBuf.dropStart 3
            tables := if mode = .ascii then s.x.tables.withAscii s.cfg.tables else s.x.tables
            distMask := dict.distMask, window := dict.window, headerParsed := true, xstate := .decoding, needMoreInput := false } })) := by
  unfold parseHeader
  split
  · rename_i h
    simp only [h, and_self, true_and]
    split
    · rename_i e; simp [e]
    · rename_i mode e
      simp only [e, reduceCtorEq, false_and, Option.some.injEq, exists_eq_left', false_or]
      split
      · rename_i e'; simp [e']
      · rename_i dict e'; simp [e', eq_comm]
  · rename_i h
    simp [h]

/-! ### The IMPLODE unit -/

/-- What `outputBits` of at most 8 bits leaves (R252). -/
theorem outputByte_eq_next {n code : Nat} {i i' : IUnit} :
    outputByte n code i = .next i' ↔ i.outBuf.size ≠ 0 ∧ ∃ last b,
      i.outBuf.readByte (i.outBuf.size - 1) = .next last ∧
      i.outBuf.setByte (-1) (last ||| BitVec.ofNat 8 (code <<< i.outBits.toNat)) = .next b ∧
      i' = { i with
        outBuf :=
          if 8 < i.outBits.toNat + n then b.append [BitVec.ofNat 8 (code >>> (8 - i.outBits.toNat))]
          else if BitVec.ofNat 3 (i.outBits.toNat + n) = 0 then b.append [0]
          else b
        outBits := BitVec.ofNat 3 (i.outBits.toNat + n) } := by
  unfold outputByte
  by_cases h : i.outBuf.size = 0
  · simp [h]
  · simp only [andThen_eq_next, Host.Outcome.next.injEq, ne_eq, h, not_false_eq_true, true_and]
    constructor
    · rintro ⟨last, hl, b, hb, rfl⟩; exact ⟨last, b, hl, hb, rfl⟩
    · rintro ⟨last, b, hl, hb, rfl⟩; exact ⟨last, hl, b, hb, rfl⟩

/-- `outputBits` of more than 8 bits is two calls (R252). -/
theorem outputBits_eq_next {n code : Nat} {i i' : IUnit} :
    outputBits n code i = .next i' ↔
      (8 < n ∧ ∃ j, outputByte 8 (lowbits 8 code) i = .next j ∧ outputByte (n - 8) (code >>> 8) j = .next i') ∨
      (n ≤ 8 ∧ outputByte n code i = .next i') := by
  unfold outputBits
  by_cases h : 8 < n
  · simp [h, andThen_eq_next, Nat.not_le.2 h]
  · simp [h, Nat.not_lt.1 h]

/-- What the emission of a token leaves (R232, R251). -/
theorem emitToken_eq_next {t : Nat} {i i' : IUnit} :
    emitToken t i = .next i' ↔ ∃ n code, i.literalBits[t]? = some n ∧ i.literalCodes[t]? = some code ∧
      outputBits n code i = .next i' := by
  unfold emitToken
  split
  · rename_i n code hn hc
    simp [hn, hc]
  · rename_i h
    constructor
    · intro he; cases he
    · rintro ⟨n, code, hn, hc, _⟩
      exact absurd hc (h n code hn)

/-- What `emitMatch` leaves (R255). -/
theorem emitMatch_eq_next {t : CodeTables} {size d : Nat} {i i' : IUnit} :
    emitMatch t size d i = .next i' ↔ ∃ j k l n code, emitToken (size + 0xFE) i = .next j ∧
      t.distBits[positionCode size i.dictBits d]? = some n ∧
      t.distCode[positionCode size i.dictBits d]? = some code ∧
      outputBits n code j = .next k ∧
      outputBits (lowWidth size k.dictBits) (lowDistanceBits size k.distMask d) k = .next l ∧
      i' = { l with cursor := l.cursor + size } := by
  unfold emitMatch
  simp only [andThen_eq_next]
  constructor
  · rintro ⟨j, hj, h⟩
    split at h
    · rename_i n code hn hc
      simp only [andThen_eq_next, Host.Outcome.next.injEq] at h
      obtain ⟨k, hk, l, hl, rfl⟩ := h
      exact ⟨j, k, l, n, code, hj, hn, hc, hk, hl, rfl⟩
    · cases h
  · rintro ⟨j, k, l, n, code, hj, hn, hc, hk, hl, rfl⟩
    refine ⟨j, hj, ?_⟩
    rw [hn, hc]
    simp only [andThen_eq_next, Host.Outcome.next.injEq]
    exact ⟨k, hk, l, hl, rfl⟩

/-- What a scan step leaves (R240). -/
theorem scanStep_eq_next {t : CodeTables} {i i' : IUnit} :
    scanStep t i = .next i' ↔ ∃ j,
      ((flushable (findRepetitions i.inBuf.contents i.cursor).1 (findRepetitions i.inBuf.contents i.cursor).2 = true ∧
        emitMatch t (findRepetitions i.inBuf.contents i.cursor).1 (findRepetitions i.inBuf.contents i.cursor).2 i
          = .next j) ∨
       (flushable (findRepetitions i.inBuf.contents i.cursor).1 (findRepetitions i.inBuf.contents i.cursor).2 = false ∧
        ∃ b k, i.inBuf.readByte i.cursor = .next b ∧ emitLiteral b i = .next k ∧
          j = { k with cursor := k.cursor + 1 })) ∧ i' = evict j := by
  unfold scanStep
  simp only
  generalize findRepetitions i.inBuf.contents i.cursor = m
  rw [andThen_eq_next]
  simp only [Host.Outcome.next.injEq]
  refine exists_congr fun j => and_congr ?_ eq_comm
  cases h : flushable m.1 m.2
  · rw [if_neg Bool.false_ne_true, andThen_eq_next]
    constructor
    · rintro ⟨b, hb, h'⟩
      obtain ⟨k, hk, e⟩ := andThen_eq_next.1 h'
      exact .inr ⟨rfl, b, k, hb, hk, (Host.Outcome.next.inj e).symm⟩
    · rintro (⟨h', _⟩ | ⟨_, b, k, hb, hk, rfl⟩)
      · cases h'
      · exact ⟨b, hb, andThen_eq_next.2 ⟨k, hk, rfl⟩⟩
  · rw [if_pos rfl]
    exact ⟨fun h' => .inl ⟨rfl, h'⟩, fun h' => h'.elim (fun h => h.2) fun h => nomatch h.1⟩

/-- What the first two bytes' step leaves (R236). -/
theorem firstTwoBytes_eq_next {i i' : IUnit} :
    firstTwoBytes i = .next i' ↔
      (i.inBuf.size < 3 ∧ i' = { i with handledFirstTwoBytes := true }) ∨
      (3 ≤ i.inBuf.size ∧ ∃ b0 b1 u v, i.inBuf.readByte 0 = .next b0 ∧
        emitLiteral b0 { i with handledFirstTwoBytes := true } = .next u ∧ u.inBuf.readByte 1 = .next b1 ∧
        emitLiteral b1 u = .next v ∧ i' = { v with cursor := 2 }) := by
  unfold firstTwoBytes
  simp only
  by_cases h : 3 ≤ i.inBuf.size
  · simp only [h, if_true, andThen_eq_next, Host.Outcome.next.injEq, Nat.not_lt.2 h, false_and, false_or, true_and]
    constructor
    · rintro ⟨b0, h0, u, hu, b1, h1, v, hv, rfl⟩; exact ⟨b0, b1, u, v, h0, hu, h1, hv, rfl⟩
    · rintro ⟨b0, b1, u, v, h0, hu, h1, hv, rfl⟩; exact ⟨b0, h0, u, hu, b1, h1, v, hv, rfl⟩
  · simp only [h, if_false, Host.Outcome.next.injEq, Nat.not_le.1 h, true_and, false_and, or_false, eq_comm]

/-- One round of the scan loop (R260). -/
theorem scanRounds_succ_eq_next {t : CodeTables} {hold : Bool} {fuel : Nat} {i i' : IUnit} :
    scanRounds t hold (fuel + 1) i = .next i' ↔
      (enabled hold i = false ∧ i' = i) ∨
      (enabled hold i = true ∧ ∃ j, (if i.handledFirstTwoBytes then scanStep t i else firstTwoBytes i) = .next j ∧
        scanRounds t hold fuel j = .next i') := by
  rw [show scanRounds t hold (fuel + 1) i = if enabled hold i then
    andThen (if i.handledFirstTwoBytes then scanStep t i else firstTwoBytes i) (scanRounds t hold fuel)
    else .next i from rfl]
  cases enabled hold i
  · rw [if_neg Bool.false_ne_true]
    refine ⟨fun h => .inl ⟨rfl, (Host.Outcome.next.inj h).symm⟩, ?_⟩
    rintro (⟨_, rfl⟩ | ⟨h, _⟩)
    · rfl
    · cases h
  · rw [if_pos rfl, andThen_eq_next]
    exact ⟨fun h => .inr ⟨rfl, h⟩, fun h => h.elim (fun h => nomatch h.1) fun h => h.2⟩

end Sys2Proof.Machine
end

