-- ==== Sys2Proof/Laws/PerInstr.lean ====
section
/-! SUPPORT. Statements about every instruction as syntax, one lemma per constructor. -/

namespace Sys2Proof

/-- With legal Static Code Tables, in every code space where the instruction is well formed, its encoding fits its width: no
bit of the pattern stands above the bits the pattern has (30_encoding.md rules R101 and R105 to R109; a host command's
pattern with its operand is log entry 21's choice). -/
def Laws.EncodeFits.Statement (i : Instr) : Prop :=
  ∀ (k : CodeTables) (sp : Space), k.legal = true → wellFormed k sp i = true →
    (encode k sp i).bits < 2 ^ (encode k sp i).width

/-! ### By shape -/

theorem bytesToNat_lt (s : List Byte) : bytesToNat s < 2 ^ (8 * s.length) := by
  induction s with
  | nil => simp [bytesToNat]
  | cons b s ih =>
    have hb := b.isLt
    simp only [bytesToNat, List.length_cons, Nat.mul_add, Nat.pow_add]
    omega

/-- A field `v` of `k` bits above a field `u` of `w` bits fits `w + k` bits. -/
theorem two_fields_fit {u v w k : Nat} (hu : u < 2 ^ w) (hv : v < 2 ^ k) : u + v <<< w < 2 ^ (w + k) := by
  have : (v + 1) * 2 ^ w ≤ 2 ^ k * 2 ^ w := Nat.mul_le_mul_right _ hv
  rw [Nat.shiftLeft_eq, Nat.pow_add, Nat.mul_comm (2 ^ w)]
  rw [Nat.add_mul, Nat.one_mul] at this
  omega

theorem encode_fits (i : Instr) : Laws.EncodeFits.Statement i := by
  intro k sp hk h
  have hcode := legal_code_lt hk
  unfold wellFormed at h
  unfold encode
  generalize i.shape = sh at *
  cases sh with
  | header m d seed => exact bytesToNat_lt [m, d, seed]
  | literalBinary b =>
    have := b.isLt
    simp only [Nat.shiftLeft_eq]
    omega
  | literalAscii b =>
    have := (hcode b.toNat).2.2
    simp only [Nat.shiftLeft_eq, Nat.pow_add]
    omega
  | length c e =>
    have he : e < 2 ^ k.exLenBits.getD c 0 := by
      cases sp with
      | token mode => cases mode <;> exact of_decide_eq_true (Bool.and_eq_true_iff.1 h).1
      | host => cases h
      | header => cases h
      | distance n d mask => cases h
    exact two_fields_fit (two_fields_fit (u := 1) (w := 1) Nat.one_lt_two (hcode c).1) he
  | endOfStream =>
    have he : 0xFF < 2 ^ k.exLenBits.getD 15 0 := by rw [(legal_ends hk).1]; decide
    exact two_fields_fit (two_fields_fit (u := 1) (w := 1) Nat.one_lt_two (hcode 15).1) he
  | distance p low =>
    cases sp with
    | distance n d mask =>
      exact two_fields_fit (hcode p).2.1 (of_decide_eq_true (Bool.and_eq_true_iff.1 h).2)
    | host => cases h
    | header => cases h
    | token mode => cases mode <;> cases h
  | command c => exact two_fields_fit (u := c.word.toNat) (w := 3) c.word.isLt (bytesToNat_lt c.operand)

/-! ### Per constructor -/

theorem Laws.EncodeFits.header (m d seed : Byte) : Laws.EncodeFits.Statement (.header m d seed) := encode_fits _
theorem Laws.EncodeFits.litB (b : Byte) : Laws.EncodeFits.Statement (.litB b) := encode_fits _
theorem Laws.EncodeFits.len0 : Laws.EncodeFits.Statement .len0 := encode_fits _
theorem Laws.EncodeFits.len1 (e : BitVec 8) : Laws.EncodeFits.Statement (.len1 e) := encode_fits _
theorem Laws.EncodeFits.len2 (e : BitVec 8) : Laws.EncodeFits.Statement (.len2 e) := encode_fits _
theorem Laws.EncodeFits.len3 (e : BitVec 8) : Laws.EncodeFits.Statement (.len3 e) := encode_fits _
theorem Laws.EncodeFits.len4 (e : BitVec 8) : Laws.EncodeFits.Statement (.len4 e) := encode_fits _
theorem Laws.EncodeFits.len5 (e : BitVec 8) : Laws.EncodeFits.Statement (.len5 e) := encode_fits _
theorem Laws.EncodeFits.len6 (e : BitVec 8) : Laws.EncodeFits.Statement (.len6 e) := encode_fits _
theorem Laws.EncodeFits.len7 (e : BitVec 8) : Laws.EncodeFits.Statement (.len7 e) := encode_fits _
theorem Laws.EncodeFits.len8 (e : BitVec 8) : Laws.EncodeFits.Statement (.len8 e) := encode_fits _
theorem Laws.EncodeFits.len9 (e : BitVec 8) : Laws.EncodeFits.Statement (.len9 e) := encode_fits _
theorem Laws.EncodeFits.len10 (e : BitVec 8) : Laws.EncodeFits.Statement (.len10 e) := encode_fits _
theorem Laws.EncodeFits.len11 (e : BitVec 8) : Laws.EncodeFits.Statement (.len11 e) := encode_fits _
theorem Laws.EncodeFits.len12 (e : BitVec 8) : Laws.EncodeFits.Statement (.len12 e) := encode_fits _
theorem Laws.EncodeFits.len13 (e : BitVec 8) : Laws.EncodeFits.Statement (.len13 e) := encode_fits _
theorem Laws.EncodeFits.len14 (e : BitVec 8) : Laws.EncodeFits.Statement (.len14 e) := encode_fits _
theorem Laws.EncodeFits.endToken : Laws.EncodeFits.Statement .endToken := encode_fits _
theorem Laws.EncodeFits.len15 (e : BitVec 8) : Laws.EncodeFits.Statement (.len15 e) := encode_fits _
theorem Laws.EncodeFits.dist0 (low : BitVec 6) : Laws.EncodeFits.Statement (.dist0 low) := encode_fits _
theorem Laws.EncodeFits.dist1 (low : BitVec 6) : Laws.EncodeFits.Statement (.dist1 low) := encode_fits _
theorem Laws.EncodeFits.dist2 (low : BitVec 6) : Laws.EncodeFits.Statement (.dist2 low) := encode_fits _
theorem Laws.EncodeFits.dist3 (low : BitVec 6) : Laws.EncodeFits.Statement (.dist3 low) := encode_fits _
theorem Laws.EncodeFits.dist4 (low : BitVec 6) : Laws.EncodeFits.Statement (.dist4 low) := encode_fits _
theorem Laws.EncodeFits.dist5 (low : BitVec 6) : Laws.EncodeFits.Statement (.dist5 low) := encode_fits _
theorem Laws.EncodeFits.dist6 (low : BitVec 6) : Laws.EncodeFits.Statement (.dist6 low) := encode_fits _
theorem Laws.EncodeFits.dist7 (low : BitVec 6) : Laws.EncodeFits.Statement (.dist7 low) := encode_fits _
theorem Laws.EncodeFits.dist8 (low : BitVec 6) : Laws.EncodeFits.Statement (.dist8 low) := encode_fits _
theorem Laws.EncodeFits.dist9 (low : BitVec 6) : Laws.EncodeFits.Statement (.dist9 low) := encode_fits _
theorem Laws.EncodeFits.dist10 (low : BitVec 6) : Laws.EncodeFits.Statement (.dist10 low) := encode_fits _
theorem Laws.EncodeFits.dist11 (low : BitVec 6) : Laws.EncodeFits.Statement (.dist11 low) := encode_fits _
theorem Laws.EncodeFits.dist12 (low : BitVec 6) : Laws.EncodeFits.Statement (.dist12 low) := encode_fits _
theorem Laws.EncodeFits.dist13 (low : BitVec 6) : Laws.EncodeFits.Statement (.dist13 low) := encode_fits _
theorem Laws.EncodeFits.dist14 (low : BitVec 6) : Laws.EncodeFits.Statement (.dist14 low) := encode_fits _
theorem Laws.EncodeFits.dist15 (low : BitVec 6) : Laws.EncodeFits.Statement (.dist15 low) := encode_fits _
theorem Laws.EncodeFits.dist16 (low : BitVec 6) : Laws.EncodeFits.Statement (.dist16 low) := encode_fits _
theorem Laws.EncodeFits.dist17 (low : BitVec 6) : Laws.EncodeFits.Statement (.dist17 low) := encode_fits _
theorem Laws.EncodeFits.dist18 (low : BitVec 6) : Laws.EncodeFits.Statement (.dist18 low) := encode_fits _
theorem Laws.EncodeFits.dist19 (low : BitVec 6) : Laws.EncodeFits.Statement (.dist19 low) := encode_fits _
theorem Laws.EncodeFits.dist20 (low : BitVec 6) : Laws.EncodeFits.Statement (.dist20 low) := encode_fits _
theorem Laws.EncodeFits.dist21 (low : BitVec 6) : Laws.EncodeFits.Statement (.dist21 low) := encode_fits _
theorem Laws.EncodeFits.dist22 (low : BitVec 6) : Laws.EncodeFits.Statement (.dist22 low) := encode_fits _
theorem Laws.EncodeFits.dist23 (low : BitVec 6) : Laws.EncodeFits.Statement (.dist23 low) := encode_fits _
theorem Laws.EncodeFits.dist24 (low : BitVec 6) : Laws.EncodeFits.Statement (.dist24 low) := encode_fits _
theorem Laws.EncodeFits.dist25 (low : BitVec 6) : Laws.EncodeFits.Statement (.dist25 low) := encode_fits _
theorem Laws.EncodeFits.dist26 (low : BitVec 6) : Laws.EncodeFits.Statement (.dist26 low) := encode_fits _
theorem Laws.EncodeFits.dist27 (low : BitVec 6) : Laws.EncodeFits.Statement (.dist27 low) := encode_fits _
theorem Laws.EncodeFits.dist28 (low : BitVec 6) : Laws.EncodeFits.Statement (.dist28 low) := encode_fits _
theorem Laws.EncodeFits.dist29 (low : BitVec 6) : Laws.EncodeFits.Statement (.dist29 low) := encode_fits _
theorem Laws.EncodeFits.dist30 (low : BitVec 6) : Laws.EncodeFits.Statement (.dist30 low) := encode_fits _
theorem Laws.EncodeFits.dist31 (low : BitVec 6) : Laws.EncodeFits.Statement (.dist31 low) := encode_fits _
theorem Laws.EncodeFits.dist32 (low : BitVec 6) : Laws.EncodeFits.Statement (.dist32 low) := encode_fits _
theorem Laws.EncodeFits.dist33 (low : BitVec 6) : Laws.EncodeFits.Statement (.dist33 low) := encode_fits _
theorem Laws.EncodeFits.dist34 (low : BitVec 6) : Laws.EncodeFits.Statement (.dist34 low) := encode_fits _
theorem Laws.EncodeFits.dist35 (low : BitVec 6) : Laws.EncodeFits.Statement (.dist35 low) := encode_fits _
theorem Laws.EncodeFits.dist36 (low : BitVec 6) : Laws.EncodeFits.Statement (.dist36 low) := encode_fits _
theorem Laws.EncodeFits.dist37 (low : BitVec 6) : Laws.EncodeFits.Statement (.dist37 low) := encode_fits _
theorem Laws.EncodeFits.dist38 (low : BitVec 6) : Laws.EncodeFits.Statement (.dist38 low) := encode_fits _
theorem Laws.EncodeFits.dist39 (low : BitVec 6) : Laws.EncodeFits.Statement (.dist39 low) := encode_fits _
theorem Laws.EncodeFits.dist40 (low : BitVec 6) : Laws.EncodeFits.Statement (.dist40 low) := encode_fits _
theorem Laws.EncodeFits.dist41 (low : BitVec 6) : Laws.EncodeFits.Statement (.dist41 low) := encode_fits _
theorem Laws.EncodeFits.dist42 (low : BitVec 6) : Laws.EncodeFits.Statement (.dist42 low) := encode_fits _
theorem Laws.EncodeFits.dist43 (low : BitVec 6) : Laws.EncodeFits.Statement (.dist43 low) := encode_fits _
theorem Laws.EncodeFits.dist44 (low : BitVec 6) : Laws.EncodeFits.Statement (.dist44 low) := encode_fits _
theorem Laws.EncodeFits.dist45 (low : BitVec 6) : Laws.EncodeFits.Statement (.dist45 low) := encode_fits _
theorem Laws.EncodeFits.dist46 (low : BitVec 6) : Laws.EncodeFits.Statement (.dist46 low) := encode_fits _
theorem Laws.EncodeFits.dist47 (low : BitVec 6) : Laws.EncodeFits.Statement (.dist47 low) := encode_fits _
theorem Laws.EncodeFits.dist48 (low : BitVec 6) : Laws.EncodeFits.Statement (.dist48 low) := encode_fits _
theorem Laws.EncodeFits.dist49 (low : BitVec 6) : Laws.EncodeFits.Statement (.dist49 low) := encode_fits _
theorem Laws.EncodeFits.dist50 (low : BitVec 6) : Laws.EncodeFits.Statement (.dist50 low) := encode_fits _
theorem Laws.EncodeFits.dist51 (low : BitVec 6) : Laws.EncodeFits.Statement (.dist51 low) := encode_fits _
theorem Laws.EncodeFits.dist52 (low : BitVec 6) : Laws.EncodeFits.Statement (.dist52 low) := encode_fits _
theorem Laws.EncodeFits.dist53 (low : BitVec 6) : Laws.EncodeFits.Statement (.dist53 low) := encode_fits _
theorem Laws.EncodeFits.dist54 (low : BitVec 6) : Laws.EncodeFits.Statement (.dist54 low) := encode_fits _
theorem Laws.EncodeFits.dist55 (low : BitVec 6) : Laws.EncodeFits.Statement (.dist55 low) := encode_fits _
theorem Laws.EncodeFits.dist56 (low : BitVec 6) : Laws.EncodeFits.Statement (.dist56 low) := encode_fits _
theorem Laws.EncodeFits.dist57 (low : BitVec 6) : Laws.EncodeFits.Statement (.dist57 low) := encode_fits _
theorem Laws.EncodeFits.dist58 (low : BitVec 6) : Laws.EncodeFits.Statement (.dist58 low) := encode_fits _
theorem Laws.EncodeFits.dist59 (low : BitVec 6) : Laws.EncodeFits.Statement (.dist59 low) := encode_fits _
theorem Laws.EncodeFits.dist60 (low : BitVec 6) : Laws.EncodeFits.Statement (.dist60 low) := encode_fits _
theorem Laws.EncodeFits.dist61 (low : BitVec 6) : Laws.EncodeFits.Statement (.dist61 low) := encode_fits _
theorem Laws.EncodeFits.dist62 (low : BitVec 6) : Laws.EncodeFits.Statement (.dist62 low) := encode_fits _
theorem Laws.EncodeFits.dist63 (low : BitVec 6) : Laws.EncodeFits.Statement (.dist63 low) := encode_fits _
theorem Laws.EncodeFits.xReset : Laws.EncodeFits.Statement .xReset := encode_fits _
theorem Laws.EncodeFits.xPush (bytes : List Byte) : Laws.EncodeFits.Statement (.xPush bytes) := encode_fits _
theorem Laws.EncodeFits.xFinish : Laws.EncodeFits.Statement .xFinish := encode_fits _
theorem Laws.EncodeFits.iReset (m d : Byte) : Laws.EncodeFits.Statement (.iReset m d) := encode_fits _
theorem Laws.EncodeFits.iPush (bytes : List Byte) : Laws.EncodeFits.Statement (.iPush bytes) := encode_fits _
theorem Laws.EncodeFits.iFinish : Laws.EncodeFits.Statement .iFinish := encode_fits _
theorem Laws.EncodeFits.litA00 : Laws.EncodeFits.Statement .litA00 := encode_fits _
theorem Laws.EncodeFits.litA01 : Laws.EncodeFits.Statement .litA01 := encode_fits _
theorem Laws.EncodeFits.litA02 : Laws.EncodeFits.Statement .litA02 := encode_fits _
theorem Laws.EncodeFits.litA03 : Laws.EncodeFits.Statement .litA03 := encode_fits _
theorem Laws.EncodeFits.litA04 : Laws.EncodeFits.Statement .litA04 := encode_fits _
theorem Laws.EncodeFits.litA05 : Laws.EncodeFits.Statement .litA05 := encode_fits _
theorem Laws.EncodeFits.litA06 : Laws.EncodeFits.Statement .litA06 := encode_fits _
theorem Laws.EncodeFits.litA07 : Laws.EncodeFits.Statement .litA07 := encode_fits _
theorem Laws.EncodeFits.litA08 : Laws.EncodeFits.Statement .litA08 := encode_fits _
theorem Laws.EncodeFits.litA09 : Laws.EncodeFits.Statement .litA09 := encode_fits _
theorem Laws.EncodeFits.litA0A : Laws.EncodeFits.Statement .litA0A := encode_fits _
theorem Laws.EncodeFits.litA0B : Laws.EncodeFits.Statement .litA0B := encode_fits _
theorem Laws.EncodeFits.litA0C : Laws.EncodeFits.Statement .litA0C := encode_fits _
theorem Laws.EncodeFits.litA0D : Laws.EncodeFits.Statement .litA0D := encode_fits _
theorem Laws.EncodeFits.litA0E : Laws.EncodeFits.Statement .litA0E := encode_fits _
theorem Laws.EncodeFits.litA0F : Laws.EncodeFits.Statement .litA0F := encode_fits _
theorem Laws.EncodeFits.litA10 : Laws.EncodeFits.Statement .litA10 := encode_fits _
theorem Laws.EncodeFits.litA11 : Laws.EncodeFits.Statement .litA11 := encode_fits _
theorem Laws.EncodeFits.litA12 : Laws.EncodeFits.Statement .litA12 := encode_fits _
theorem Laws.EncodeFits.litA13 : Laws.EncodeFits.Statement .litA13 := encode_fits _
theorem Laws.EncodeFits.litA14 : Laws.EncodeFits.Statement .litA14 := encode_fits _
theorem Laws.EncodeFits.litA15 : Laws.EncodeFits.Statement .litA15 := encode_fits _
theorem Laws.EncodeFits.litA16 : Laws.EncodeFits.Statement .litA16 := encode_fits _
theorem Laws.EncodeFits.litA17 : Laws.EncodeFits.Statement .litA17 := encode_fits _
theorem Laws.EncodeFits.litA18 : Laws.EncodeFits.Statement .litA18 := encode_fits _
theorem Laws.EncodeFits.litA19 : Laws.EncodeFits.Statement .litA19 := encode_fits _
theorem Laws.EncodeFits.litA1A : Laws.EncodeFits.Statement .litA1A := encode_fits _
theorem Laws.EncodeFits.litA1B : Laws.EncodeFits.Statement .litA1B := encode_fits _
theorem Laws.EncodeFits.litA1C : Laws.EncodeFits.Statement .litA1C := encode_fits _
theorem Laws.EncodeFits.litA1D : Laws.EncodeFits.Statement .litA1D := encode_fits _
theorem Laws.EncodeFits.litA1E : Laws.EncodeFits.Statement .litA1E := encode_fits _
theorem Laws.EncodeFits.litA1F : Laws.EncodeFits.Statement .litA1F := encode_fits _
theorem Laws.EncodeFits.litA20 : Laws.EncodeFits.Statement .litA20 := encode_fits _
theorem Laws.EncodeFits.litA21 : Laws.EncodeFits.Statement .litA21 := encode_fits _
theorem Laws.EncodeFits.litA22 : Laws.EncodeFits.Statement .litA22 := encode_fits _
theorem Laws.EncodeFits.litA23 : Laws.EncodeFits.Statement .litA23 := encode_fits _
theorem Laws.EncodeFits.litA24 : Laws.EncodeFits.Statement .litA24 := encode_fits _
theorem Laws.EncodeFits.litA25 : Laws.EncodeFits.Statement .litA25 := encode_fits _
theorem Laws.EncodeFits.litA26 : Laws.EncodeFits.Statement .litA26 := encode_fits _
theorem Laws.EncodeFits.litA27 : Laws.EncodeFits.Statement .litA27 := encode_fits _
theorem Laws.EncodeFits.litA28 : Laws.EncodeFits.Statement .litA28 := encode_fits _
theorem Laws.EncodeFits.litA29 : Laws.EncodeFits.Statement .litA29 := encode_fits _
theorem Laws.EncodeFits.litA2A : Laws.EncodeFits.Statement .litA2A := encode_fits _
theorem Laws.EncodeFits.litA2B : Laws.EncodeFits.Statement .litA2B := encode_fits _
theorem Laws.EncodeFits.litA2C : Laws.EncodeFits.Statement .litA2C := encode_fits _
theorem Laws.EncodeFits.litA2D : Laws.EncodeFits.Statement .litA2D := encode_fits _
theorem Laws.EncodeFits.litA2E : Laws.EncodeFits.Statement .litA2E := encode_fits _
theorem Laws.EncodeFits.litA2F : Laws.EncodeFits.Statement .litA2F := encode_fits _
theorem Laws.EncodeFits.litA30 : Laws.EncodeFits.Statement .litA30 := encode_fits _
theorem Laws.EncodeFits.litA31 : Laws.EncodeFits.Statement .litA31 := encode_fits _
theorem Laws.EncodeFits.litA32 : Laws.EncodeFits.Statement .litA32 := encode_fits _
theorem Laws.EncodeFits.litA33 : Laws.EncodeFits.Statement .litA33 := encode_fits _
theorem Laws.EncodeFits.litA34 : Laws.EncodeFits.Statement .litA34 := encode_fits _
theorem Laws.EncodeFits.litA35 : Laws.EncodeFits.Statement .litA35 := encode_fits _
theorem Laws.EncodeFits.litA36 : Laws.EncodeFits.Statement .litA36 := encode_fits _
theorem Laws.EncodeFits.litA37 : Laws.EncodeFits.Statement .litA37 := encode_fits _
theorem Laws.EncodeFits.litA38 : Laws.EncodeFits.Statement .litA38 := encode_fits _
theorem Laws.EncodeFits.litA39 : Laws.EncodeFits.Statement .litA39 := encode_fits _
theorem Laws.EncodeFits.litA3A : Laws.EncodeFits.Statement .litA3A := encode_fits _
theorem Laws.EncodeFits.litA3B : Laws.EncodeFits.Statement .litA3B := encode_fits _
theorem Laws.EncodeFits.litA3C : Laws.EncodeFits.Statement .litA3C := encode_fits _
theorem Laws.EncodeFits.litA3D : Laws.EncodeFits.Statement .litA3D := encode_fits _
theorem Laws.EncodeFits.litA3E : Laws.EncodeFits.Statement .litA3E := encode_fits _
theorem Laws.EncodeFits.litA3F : Laws.EncodeFits.Statement .litA3F := encode_fits _
theorem Laws.EncodeFits.litA40 : Laws.EncodeFits.Statement .litA40 := encode_fits _
theorem Laws.EncodeFits.litA41 : Laws.EncodeFits.Statement .litA41 := encode_fits _
theorem Laws.EncodeFits.litA42 : Laws.EncodeFits.Statement .litA42 := encode_fits _
theorem Laws.EncodeFits.litA43 : Laws.EncodeFits.Statement .litA43 := encode_fits _
theorem Laws.EncodeFits.litA44 : Laws.EncodeFits.Statement .litA44 := encode_fits _
theorem Laws.EncodeFits.litA45 : Laws.EncodeFits.Statement .litA45 := encode_fits _
theorem Laws.EncodeFits.litA46 : Laws.EncodeFits.Statement .litA46 := encode_fits _
theorem Laws.EncodeFits.litA47 : Laws.EncodeFits.Statement .litA47 := encode_fits _
theorem Laws.EncodeFits.litA48 : Laws.EncodeFits.Statement .litA48 := encode_fits _
theorem Laws.EncodeFits.litA49 : Laws.EncodeFits.Statement .litA49 := encode_fits _
theorem Laws.EncodeFits.litA4A : Laws.EncodeFits.Statement .litA4A := encode_fits _
theorem Laws.EncodeFits.litA4B : Laws.EncodeFits.Statement .litA4B := encode_fits _
theorem Laws.EncodeFits.litA4C : Laws.EncodeFits.Statement .litA4C := encode_fits _
theorem Laws.EncodeFits.litA4D : Laws.EncodeFits.Statement .litA4D := encode_fits _
theorem Laws.EncodeFits.litA4E : Laws.EncodeFits.Statement .litA4E := encode_fits _
theorem Laws.EncodeFits.litA4F : Laws.EncodeFits.Statement .litA4F := encode_fits _
theorem Laws.EncodeFits.litA50 : Laws.EncodeFits.Statement .litA50 := encode_fits _
theorem Laws.EncodeFits.litA51 : Laws.EncodeFits.Statement .litA51 := encode_fits _
theorem Laws.EncodeFits.litA52 : Laws.EncodeFits.Statement .litA52 := encode_fits _
theorem Laws.EncodeFits.litA53 : Laws.EncodeFits.Statement .litA53 := encode_fits _
theorem Laws.EncodeFits.litA54 : Laws.EncodeFits.Statement .litA54 := encode_fits _
theorem Laws.EncodeFits.litA55 : Laws.EncodeFits.Statement .litA55 := encode_fits _
theorem Laws.EncodeFits.litA56 : Laws.EncodeFits.Statement .litA56 := encode_fits _
theorem Laws.EncodeFits.litA57 : Laws.EncodeFits.Statement .litA57 := encode_fits _
theorem Laws.EncodeFits.litA58 : Laws.EncodeFits.Statement .litA58 := encode_fits _
theorem Laws.EncodeFits.litA59 : Laws.EncodeFits.Statement .litA59 := encode_fits _
theorem Laws.EncodeFits.litA5A : Laws.EncodeFits.Statement .litA5A := encode_fits _
theorem Laws.EncodeFits.litA5B : Laws.EncodeFits.Statement .litA5B := encode_fits _
theorem Laws.EncodeFits.litA5C : Laws.EncodeFits.Statement .litA5C := encode_fits _
theorem Laws.EncodeFits.litA5D : Laws.EncodeFits.Statement .litA5D := encode_fits _
theorem Laws.EncodeFits.litA5E : Laws.EncodeFits.Statement .litA5E := encode_fits _
theorem Laws.EncodeFits.litA5F : Laws.EncodeFits.Statement .litA5F := encode_fits _
theorem Laws.EncodeFits.litA60 : Laws.EncodeFits.Statement .litA60 := encode_fits _
theorem Laws.EncodeFits.litA61 : Laws.EncodeFits.Statement .litA61 := encode_fits _
theorem Laws.EncodeFits.litA62 : Laws.EncodeFits.Statement .litA62 := encode_fits _
theorem Laws.EncodeFits.litA63 : Laws.EncodeFits.Statement .litA63 := encode_fits _
theorem Laws.EncodeFits.litA64 : Laws.EncodeFits.Statement .litA64 := encode_fits _
theorem Laws.EncodeFits.litA65 : Laws.EncodeFits.Statement .litA65 := encode_fits _
theorem Laws.EncodeFits.litA66 : Laws.EncodeFits.Statement .litA66 := encode_fits _
theorem Laws.EncodeFits.litA67 : Laws.EncodeFits.Statement .litA67 := encode_fits _
theorem Laws.EncodeFits.litA68 : Laws.EncodeFits.Statement .litA68 := encode_fits _
theorem Laws.EncodeFits.litA69 : Laws.EncodeFits.Statement .litA69 := encode_fits _
theorem Laws.EncodeFits.litA6A : Laws.EncodeFits.Statement .litA6A := encode_fits _
theorem Laws.EncodeFits.litA6B : Laws.EncodeFits.Statement .litA6B := encode_fits _
theorem Laws.EncodeFits.litA6C : Laws.EncodeFits.Statement .litA6C := encode_fits _
theorem Laws.EncodeFits.litA6D : Laws.EncodeFits.Statement .litA6D := encode_fits _
theorem Laws.EncodeFits.litA6E : Laws.EncodeFits.Statement .litA6E := encode_fits _
theorem Laws.EncodeFits.litA6F : Laws.EncodeFits.Statement .litA6F := encode_fits _
theorem Laws.EncodeFits.litA70 : Laws.EncodeFits.Statement .litA70 := encode_fits _
theorem Laws.EncodeFits.litA71 : Laws.EncodeFits.Statement .litA71 := encode_fits _
theorem Laws.EncodeFits.litA72 : Laws.EncodeFits.Statement .litA72 := encode_fits _
theorem Laws.EncodeFits.litA73 : Laws.EncodeFits.Statement .litA73 := encode_fits _
theorem Laws.EncodeFits.litA74 : Laws.EncodeFits.Statement .litA74 := encode_fits _
theorem Laws.EncodeFits.litA75 : Laws.EncodeFits.Statement .litA75 := encode_fits _
theorem Laws.EncodeFits.litA76 : Laws.EncodeFits.Statement .litA76 := encode_fits _
theorem Laws.EncodeFits.litA77 : Laws.EncodeFits.Statement .litA77 := encode_fits _
theorem Laws.EncodeFits.litA78 : Laws.EncodeFits.Statement .litA78 := encode_fits _
theorem Laws.EncodeFits.litA79 : Laws.EncodeFits.Statement .litA79 := encode_fits _
theorem Laws.EncodeFits.litA7A : Laws.EncodeFits.Statement .litA7A := encode_fits _
theorem Laws.EncodeFits.litA7B : Laws.EncodeFits.Statement .litA7B := encode_fits _
theorem Laws.EncodeFits.litA7C : Laws.EncodeFits.Statement .litA7C := encode_fits _
theorem Laws.EncodeFits.litA7D : Laws.EncodeFits.Statement .litA7D := encode_fits _
theorem Laws.EncodeFits.litA7E : Laws.EncodeFits.Statement .litA7E := encode_fits _
theorem Laws.EncodeFits.litA7F : Laws.EncodeFits.Statement .litA7F := encode_fits _
theorem Laws.EncodeFits.litA80 : Laws.EncodeFits.Statement .litA80 := encode_fits _
theorem Laws.EncodeFits.litA81 : Laws.EncodeFits.Statement .litA81 := encode_fits _
theorem Laws.EncodeFits.litA82 : Laws.EncodeFits.Statement .litA82 := encode_fits _
theorem Laws.EncodeFits.litA83 : Laws.EncodeFits.Statement .litA83 := encode_fits _
theorem Laws.EncodeFits.litA84 : Laws.EncodeFits.Statement .litA84 := encode_fits _
theorem Laws.EncodeFits.litA85 : Laws.EncodeFits.Statement .litA85 := encode_fits _
theorem Laws.EncodeFits.litA86 : Laws.EncodeFits.Statement .litA86 := encode_fits _
theorem Laws.EncodeFits.litA87 : Laws.EncodeFits.Statement .litA87 := encode_fits _
theorem Laws.EncodeFits.litA88 : Laws.EncodeFits.Statement .litA88 := encode_fits _
theorem Laws.EncodeFits.litA89 : Laws.EncodeFits.Statement .litA89 := encode_fits _
theorem Laws.EncodeFits.litA8A : Laws.EncodeFits.Statement .litA8A := encode_fits _
theorem Laws.EncodeFits.litA8B : Laws.EncodeFits.Statement .litA8B := encode_fits _
theorem Laws.EncodeFits.litA8C : Laws.EncodeFits.Statement .litA8C := encode_fits _
theorem Laws.EncodeFits.litA8D : Laws.EncodeFits.Statement .litA8D := encode_fits _
theorem Laws.EncodeFits.litA8E : Laws.EncodeFits.Statement .litA8E := encode_fits _
theorem Laws.EncodeFits.litA8F : Laws.EncodeFits.Statement .litA8F := encode_fits _
theorem Laws.EncodeFits.litA90 : Laws.EncodeFits.Statement .litA90 := encode_fits _
theorem Laws.EncodeFits.litA91 : Laws.EncodeFits.Statement .litA91 := encode_fits _
theorem Laws.EncodeFits.litA92 : Laws.EncodeFits.Statement .litA92 := encode_fits _
theorem Laws.EncodeFits.litA93 : Laws.EncodeFits.Statement .litA93 := encode_fits _
theorem Laws.EncodeFits.litA94 : Laws.EncodeFits.Statement .litA94 := encode_fits _
theorem Laws.EncodeFits.litA95 : Laws.EncodeFits.Statement .litA95 := encode_fits _
theorem Laws.EncodeFits.litA96 : Laws.EncodeFits.Statement .litA96 := encode_fits _
theorem Laws.EncodeFits.litA97 : Laws.EncodeFits.Statement .litA97 := encode_fits _
theorem Laws.EncodeFits.litA98 : Laws.EncodeFits.Statement .litA98 := encode_fits _
theorem Laws.EncodeFits.litA99 : Laws.EncodeFits.Statement .litA99 := encode_fits _
theorem Laws.EncodeFits.litA9A : Laws.EncodeFits.Statement .litA9A := encode_fits _
theorem Laws.EncodeFits.litA9B : Laws.EncodeFits.Statement .litA9B := encode_fits _
theorem Laws.EncodeFits.litA9C : Laws.EncodeFits.Statement .litA9C := encode_fits _
theorem Laws.EncodeFits.litA9D : Laws.EncodeFits.Statement .litA9D := encode_fits _
theorem Laws.EncodeFits.litA9E : Laws.EncodeFits.Statement .litA9E := encode_fits _
theorem Laws.EncodeFits.litA9F : Laws.EncodeFits.Statement .litA9F := encode_fits _
theorem Laws.EncodeFits.litAA0 : Laws.EncodeFits.Statement .litAA0 := encode_fits _
theorem Laws.EncodeFits.litAA1 : Laws.EncodeFits.Statement .litAA1 := encode_fits _
theorem Laws.EncodeFits.litAA2 : Laws.EncodeFits.Statement .litAA2 := encode_fits _
theorem Laws.EncodeFits.litAA3 : Laws.EncodeFits.Statement .litAA3 := encode_fits _
theorem Laws.EncodeFits.litAA4 : Laws.EncodeFits.Statement .litAA4 := encode_fits _
theorem Laws.EncodeFits.litAA5 : Laws.EncodeFits.Statement .litAA5 := encode_fits _
theorem Laws.EncodeFits.litAA6 : Laws.EncodeFits.Statement .litAA6 := encode_fits _
theorem Laws.EncodeFits.litAA7 : Laws.EncodeFits.Statement .litAA7 := encode_fits _
theorem Laws.EncodeFits.litAA8 : Laws.EncodeFits.Statement .litAA8 := encode_fits _
theorem Laws.EncodeFits.litAA9 : Laws.EncodeFits.Statement .litAA9 := encode_fits _
theorem Laws.EncodeFits.litAAA : Laws.EncodeFits.Statement .litAAA := encode_fits _
theorem Laws.EncodeFits.litAAB : Laws.EncodeFits.Statement .litAAB := encode_fits _
theorem Laws.EncodeFits.litAAC : Laws.EncodeFits.Statement .litAAC := encode_fits _
theorem Laws.EncodeFits.litAAD : Laws.EncodeFits.Statement .litAAD := encode_fits _
theorem Laws.EncodeFits.litAAE : Laws.EncodeFits.Statement .litAAE := encode_fits _
theorem Laws.EncodeFits.litAAF : Laws.EncodeFits.Statement .litAAF := encode_fits _
theorem Laws.EncodeFits.litAB0 : Laws.EncodeFits.Statement .litAB0 := encode_fits _
theorem Laws.EncodeFits.litAB1 : Laws.EncodeFits.Statement .litAB1 := encode_fits _
theorem Laws.EncodeFits.litAB2 : Laws.EncodeFits.Statement .litAB2 := encode_fits _
theorem Laws.EncodeFits.litAB3 : Laws.EncodeFits.Statement .litAB3 := encode_fits _
theorem Laws.EncodeFits.litAB4 : Laws.EncodeFits.Statement .litAB4 := encode_fits _
theorem Laws.EncodeFits.litAB5 : Laws.EncodeFits.Statement .litAB5 := encode_fits _
theorem Laws.EncodeFits.litAB6 : Laws.EncodeFits.Statement .litAB6 := encode_fits _
theorem Laws.EncodeFits.litAB7 : Laws.EncodeFits.Statement .litAB7 := encode_fits _
theorem Laws.EncodeFits.litAB8 : Laws.EncodeFits.Statement .litAB8 := encode_fits _
theorem Laws.EncodeFits.litAB9 : Laws.EncodeFits.Statement .litAB9 := encode_fits _
theorem Laws.EncodeFits.litABA : Laws.EncodeFits.Statement .litABA := encode_fits _
theorem Laws.EncodeFits.litABB : Laws.EncodeFits.Statement .litABB := encode_fits _
theorem Laws.EncodeFits.litABC : Laws.EncodeFits.Statement .litABC := encode_fits _
theorem Laws.EncodeFits.litABD : Laws.EncodeFits.Statement .litABD := encode_fits _
theorem Laws.EncodeFits.litABE : Laws.EncodeFits.Statement .litABE := encode_fits _
theorem Laws.EncodeFits.litABF : Laws.EncodeFits.Statement .litABF := encode_fits _
theorem Laws.EncodeFits.litAC0 : Laws.EncodeFits.Statement .litAC0 := encode_fits _
theorem Laws.EncodeFits.litAC1 : Laws.EncodeFits.Statement .litAC1 := encode_fits _
theorem Laws.EncodeFits.litAC2 : Laws.EncodeFits.Statement .litAC2 := encode_fits _
theorem Laws.EncodeFits.litAC3 : Laws.EncodeFits.Statement .litAC3 := encode_fits _
theorem Laws.EncodeFits.litAC4 : Laws.EncodeFits.Statement .litAC4 := encode_fits _
theorem Laws.EncodeFits.litAC5 : Laws.EncodeFits.Statement .litAC5 := encode_fits _
theorem Laws.EncodeFits.litAC6 : Laws.EncodeFits.Statement .litAC6 := encode_fits _
theorem Laws.EncodeFits.litAC7 : Laws.EncodeFits.Statement .litAC7 := encode_fits _
theorem Laws.EncodeFits.litAC8 : Laws.EncodeFits.Statement .litAC8 := encode_fits _
theorem Laws.EncodeFits.litAC9 : Laws.EncodeFits.Statement .litAC9 := encode_fits _
theorem Laws.EncodeFits.litACA : Laws.EncodeFits.Statement .litACA := encode_fits _
theorem Laws.EncodeFits.litACB : Laws.EncodeFits.Statement .litACB := encode_fits _
theorem Laws.EncodeFits.litACC : Laws.EncodeFits.Statement .litACC := encode_fits _
theorem Laws.EncodeFits.litACD : Laws.EncodeFits.Statement .litACD := encode_fits _
theorem Laws.EncodeFits.litACE : Laws.EncodeFits.Statement .litACE := encode_fits _
theorem Laws.EncodeFits.litACF : Laws.EncodeFits.Statement .litACF := encode_fits _
theorem Laws.EncodeFits.litAD0 : Laws.EncodeFits.Statement .litAD0 := encode_fits _
theorem Laws.EncodeFits.litAD1 : Laws.EncodeFits.Statement .litAD1 := encode_fits _
theorem Laws.EncodeFits.litAD2 : Laws.EncodeFits.Statement .litAD2 := encode_fits _
theorem Laws.EncodeFits.litAD3 : Laws.EncodeFits.Statement .litAD3 := encode_fits _
theorem Laws.EncodeFits.litAD4 : Laws.EncodeFits.Statement .litAD4 := encode_fits _
theorem Laws.EncodeFits.litAD5 : Laws.EncodeFits.Statement .litAD5 := encode_fits _
theorem Laws.EncodeFits.litAD6 : Laws.EncodeFits.Statement .litAD6 := encode_fits _
theorem Laws.EncodeFits.litAD7 : Laws.EncodeFits.Statement .litAD7 := encode_fits _
theorem Laws.EncodeFits.litAD8 : Laws.EncodeFits.Statement .litAD8 := encode_fits _
theorem Laws.EncodeFits.litAD9 : Laws.EncodeFits.Statement .litAD9 := encode_fits _
theorem Laws.EncodeFits.litADA : Laws.EncodeFits.Statement .litADA := encode_fits _
theorem Laws.EncodeFits.litADB : Laws.EncodeFits.Statement .litADB := encode_fits _
theorem Laws.EncodeFits.litADC : Laws.EncodeFits.Statement .litADC := encode_fits _
theorem Laws.EncodeFits.litADD : Laws.EncodeFits.Statement .litADD := encode_fits _
theorem Laws.EncodeFits.litADE : Laws.EncodeFits.Statement .litADE := encode_fits _
theorem Laws.EncodeFits.litADF : Laws.EncodeFits.Statement .litADF := encode_fits _
theorem Laws.EncodeFits.litAE0 : Laws.EncodeFits.Statement .litAE0 := encode_fits _
theorem Laws.EncodeFits.litAE1 : Laws.EncodeFits.Statement .litAE1 := encode_fits _
theorem Laws.EncodeFits.litAE2 : Laws.EncodeFits.Statement .litAE2 := encode_fits _
theorem Laws.EncodeFits.litAE3 : Laws.EncodeFits.Statement .litAE3 := encode_fits _
theorem Laws.EncodeFits.litAE4 : Laws.EncodeFits.Statement .litAE4 := encode_fits _
theorem Laws.EncodeFits.litAE5 : Laws.EncodeFits.Statement .litAE5 := encode_fits _
theorem Laws.EncodeFits.litAE6 : Laws.EncodeFits.Statement .litAE6 := encode_fits _
theorem Laws.EncodeFits.litAE7 : Laws.EncodeFits.Statement .litAE7 := encode_fits _
theorem Laws.EncodeFits.litAE8 : Laws.EncodeFits.Statement .litAE8 := encode_fits _
theorem Laws.EncodeFits.litAE9 : Laws.EncodeFits.Statement .litAE9 := encode_fits _
theorem Laws.EncodeFits.litAEA : Laws.EncodeFits.Statement .litAEA := encode_fits _
theorem Laws.EncodeFits.litAEB : Laws.EncodeFits.Statement .litAEB := encode_fits _
theorem Laws.EncodeFits.litAEC : Laws.EncodeFits.Statement .litAEC := encode_fits _
theorem Laws.EncodeFits.litAED : Laws.EncodeFits.Statement .litAED := encode_fits _
theorem Laws.EncodeFits.litAEE : Laws.EncodeFits.Statement .litAEE := encode_fits _
theorem Laws.EncodeFits.litAEF : Laws.EncodeFits.Statement .litAEF := encode_fits _
theorem Laws.EncodeFits.litAF0 : Laws.EncodeFits.Statement .litAF0 := encode_fits _
theorem Laws.EncodeFits.litAF1 : Laws.EncodeFits.Statement .litAF1 := encode_fits _
theorem Laws.EncodeFits.litAF2 : Laws.EncodeFits.Statement .litAF2 := encode_fits _
theorem Laws.EncodeFits.litAF3 : Laws.EncodeFits.Statement .litAF3 := encode_fits _
theorem Laws.EncodeFits.litAF4 : Laws.EncodeFits.Statement .litAF4 := encode_fits _
theorem Laws.EncodeFits.litAF5 : Laws.EncodeFits.Statement .litAF5 := encode_fits _
theorem Laws.EncodeFits.litAF6 : Laws.EncodeFits.Statement .litAF6 := encode_fits _
theorem Laws.EncodeFits.litAF7 : Laws.EncodeFits.Statement .litAF7 := encode_fits _
theorem Laws.EncodeFits.litAF8 : Laws.EncodeFits.Statement .litAF8 := encode_fits _
theorem Laws.EncodeFits.litAF9 : Laws.EncodeFits.Statement .litAF9 := encode_fits _
theorem Laws.EncodeFits.litAFA : Laws.EncodeFits.Statement .litAFA := encode_fits _
theorem Laws.EncodeFits.litAFB : Laws.EncodeFits.Statement .litAFB := encode_fits _
theorem Laws.EncodeFits.litAFC : Laws.EncodeFits.Statement .litAFC := encode_fits _
theorem Laws.EncodeFits.litAFD : Laws.EncodeFits.Statement .litAFD := encode_fits _
theorem Laws.EncodeFits.litAFE : Laws.EncodeFits.Statement .litAFE := encode_fits _
theorem Laws.EncodeFits.litAFF : Laws.EncodeFits.Statement .litAFF := encode_fits _

end Sys2Proof
end

