-- ==== Sys2Proof/Laws/Summary.lean ====
section
/-! SUPPORT. The small lemmas of the functional summary of compression (45_implode_emit.md rule R264). -/

namespace Sys2Proof

@[simp] theorem Code.followedBy_width (a b : Code) : (a.followedBy b).width = a.width + b.width := rfl

@[simp] theorem Code.followedBy_bits (a b : Code) : (a.followedBy b).bits = a.bits + b.bits <<< a.width := rfl

/-- Patterns are joined in any grouping. -/
theorem Code.followedBy_assoc (a b c : Code) : (a.followedBy b).followedBy c = a.followedBy (b.followedBy c) := by
  simp only [Code.followedBy, Code.mk.injEq, Nat.shiftLeft_eq, Nat.pow_add]
  constructor <;> ring

namespace Machine

@[simp] theorem Token.size_literal (b : Byte) : (Token.literal b).size = 1 := rfl

@[simp] theorem Token.size_copy (size d : Nat) : (Token.copy size d).size = size := rfl

/-- A flushable match is not empty (R239). -/
theorem pos_of_flushable {size d : Nat} (h : flushable size d = true) : 0 < size := by
  cases size with
  | zero => simp [flushable] at h
  | succ n => exact Nat.succ_pos n

/-- Every token takes at least one byte of the input, so a scan ends (R260). -/
theorem tokenAt_size_pos (bytes : List Byte) (cursor : Nat) (b : Byte) : 0 < (tokenAt bytes cursor b).size := by
  unfold tokenAt
  simp only
  split
  · exact pos_of_flushable ‹_›
  · exact Nat.one_pos

/-- The packed stream is the two header bytes and the bytes its bits need, with the one that is being filled (R253). -/
theorem length_pack (k : CodeTables) (mode : CompressionMode) (dict : DictionarySize) (tokens : List Token) :
    (pack k mode dict tokens).length =
      ((tokens.map (Token.code k mode dict)).foldr Code.followedBy (encode k (.token mode) .endToken)).width / 8 + 3 := by
  simp [pack]

end Machine

end Sys2Proof
end

