-- ==== Sys2Proof/Tests/Slice0.lean ====
section
/-! SUPPORT. The model's own tests: every row's word decodes to its instruction, each well-formedness check refuses
something, single steps of the spec's vectors (95_test_vectors.md), and for every statement with hypotheses values that
meet them. Expected results are the spec's. -/

namespace Sys2Proof.Machine.Tests

-- One kernel check at a time: those waiting behind a long one would each hold a thread.
set_option Elab.async false

/-- The default Static Code Tables, with which spec/opcode_table.json is written. -/
abbrev std : CodeTables := CodeTables.standard

/-! ### Decoding: words from spec/opcode_table.json, operand bits added by hand -/

/-- The decoder reads `i` from the word, and the encoder writes the word for `i`. -/
def reads (sp : Space) (w : Nat) (i : Instr) : Bool :=
  (match decode std tableTables sp (tableReader w) with
    | .instr j _ => j == i
    | _ => false) && (encode std sp i).bits == w && wellFormed std sp i

theorem test_decode_header : decodeTableWord 24 0x820400 = some (.header 0x00 0x04 0x82) := by decide
/-- `LIT 0x41` is the number 0x082 (R124). -/
theorem test_decode_litB : reads (.token .binary) 0x082 (.litB 0x41) = true := by decide
theorem test_decode_litB_ff : reads (.token .binary) 0x1FE (.litB 0xFF) = true := by decide
theorem test_decode_endToken : reads (.token .binary) 0xFF01 .endToken = true ∧ reads (.token .ascii) 0xFF01 .endToken = true := by
  decide
theorem test_decode_len0_to_len7 :
    [(0x0B, Instr.len0), (0x07, Instr.len1), (0x03, Instr.len2), (0x0D, Instr.len3), (0x15, Instr.len4), (0x05, Instr.len5), (0x19, Instr.len6), (0x29, Instr.len7)].all
      (fun p => reads (.token .binary) p.1 p.2) = true := by decide
theorem test_decode_len8_to_len15 :
    [(0x0049, Instr.len8 0x01),
      (0x00B1, Instr.len9 0x02),
      (0x0151, Instr.len10 0x05),
      (0x04E1, Instr.len11 0x09),
      (0x09A1, Instr.len12 0x13),
      (0x16C1, Instr.len13 0x2D),
      (0x5581, Instr.len14 0x55),
      (0xFE01, Instr.len15 0xFE)].all
      (fun p => reads (.token .ascii) p.1 p.2) = true := by decide
theorem test_decode_dist_0 :
    [(0x0027, Instr.dist0 9), (0x00ED, Instr.dist1 14), (0x0035, Instr.dist2 3), (0x0119, Instr.dist3 8),
      (0x01A9, Instr.dist4 13), (0x0051, Instr.dist5 2), (0x00E1, Instr.dist6 7), (0x033E, Instr.dist7 12),
      (0x005E, Instr.dist8 1), (0x01AE, Instr.dist9 6), (0x02CE, Instr.dist10 11), (0x0036, Instr.dist11 0),
      (0x0156, Instr.dist12 5), (0x02A6, Instr.dist13 10), (0x03C6, Instr.dist14 15), (0x013A, Instr.dist15 4)].all
      (fun p => reads (.distance 3 .small 0x0F) p.1 p.2) = true := by decide +kernel
theorem test_decode_dist_1 :
    [(0x025A, Instr.dist16 9), (0x03AA, Instr.dist17 14), (0x00CA, Instr.dist18 3), (0x0232, Instr.dist19 8),
      (0x0352, Instr.dist20 13), (0x00A2, Instr.dist21 2), (0x03C2, Instr.dist22 7), (0x0602, Instr.dist23 12),
      (0x00FC, Instr.dist24 1), (0x033C, Instr.dist25 6), (0x05DC, Instr.dist26 11), (0x001C, Instr.dist27 0),
      (0x02EC, Instr.dist28 5), (0x052C, Instr.dist29 10), (0x07CC, Instr.dist30 15), (0x020C, Instr.dist31 4)].all
      (fun p => reads (.distance 3 .small 0x0F) p.1 p.2) = true := by decide +kernel
theorem test_decode_dist_2 :
    [(0x04F4, Instr.dist32 9), (0x0734, Instr.dist33 14), (0x01D4, Instr.dist34 3), (0x0414, Instr.dist35 8),
      (0x06E4, Instr.dist36 13), (0x0124, Instr.dist37 2), (0x03C4, Instr.dist38 7), (0x0604, Instr.dist39 12),
      (0x00F8, Instr.dist40 1), (0x0338, Instr.dist41 6), (0x05D8, Instr.dist42 11), (0x0018, Instr.dist43 0),
      (0x02E8, Instr.dist44 5), (0x0528, Instr.dist45 10), (0x07C8, Instr.dist46 15), (0x0208, Instr.dist47 4)].all
      (fun p => reads (.distance 3 .small 0x0F) p.1 p.2) = true := by decide +kernel
theorem test_decode_dist_3 :
    [(0x09F0, Instr.dist48 9), (0x0E70, Instr.dist49 14), (0x03B0, Instr.dist50 3), (0x0830, Instr.dist51 8),
      (0x0DD0, Instr.dist52 13), (0x0250, Instr.dist53 2), (0x0790, Instr.dist54 7), (0x0C10, Instr.dist55 12),
      (0x01E0, Instr.dist56 1), (0x0660, Instr.dist57 6), (0x0BA0, Instr.dist58 11), (0x0020, Instr.dist59 0),
      (0x05C0, Instr.dist60 5), (0x0A40, Instr.dist61 10), (0x0F80, Instr.dist62 15), (0x0400, Instr.dist63 4)].all
      (fun p => reads (.distance 3 .small 0x0F) p.1 p.2) = true := by decide +kernel
/-- With repeat length 2 the low field has 2 bits (R108), with `dictBits = 6` it has 6. -/
theorem test_decode_dist_low :
    reads (.distance 2 .large 0x3F) 0x00B (.dist0 2) = true ∧ reads (.distance 9 .large 0x3F) 0x2F00 (.dist63 0x2F) = true := by
  decide
theorem test_decode_litA_00 :
    [(0x0920, Instr.litA00), (0x1FC0, Instr.litA01), (0x0FC0, Instr.litA02), (0x17C0, Instr.litA03),
      (0x07C0, Instr.litA04), (0x1BC0, Instr.litA05), (0x0BC0, Instr.litA06), (0x13C0, Instr.litA07),
      (0x03C0, Instr.litA08), (0x0170, Instr.litA09), (0x00C4, Instr.litA0A), (0x1DC0, Instr.litA0B),
      (0x0DC0, Instr.litA0C), (0x0044, Instr.litA0D), (0x15C0, Instr.litA0E), (0x05C0, Instr.litA0F)].all
      (fun p => reads (.token .ascii) p.1 p.2) = true := by decide +kernel
theorem test_decode_litA_10 :
    [(0x19C0, Instr.litA10), (0x09C0, Instr.litA11), (0x11C0, Instr.litA12), (0x01C0, Instr.litA13),
      (0x1EC0, Instr.litA14), (0x0EC0, Instr.litA15), (0x16C0, Instr.litA16), (0x06C0, Instr.litA17),
      (0x1AC0, Instr.litA18), (0x0AC0, Instr.litA19), (0x2480, Instr.litA1A), (0x12C0, Instr.litA1B),
      (0x02C0, Instr.litA1C), (0x1CC0, Instr.litA1D), (0x0CC0, Instr.litA1E), (0x14C0, Instr.litA1F)].all
      (fun p => reads (.token .ascii) p.1 p.2) = true := by decide +kernel
theorem test_decode_litA_20 :
    [(0x001E, Instr.litA20), (0x04A0, Instr.litA21), (0x0070, Instr.litA22), (0x04C0, Instr.litA23),
      (0x00A0, Instr.litA24), (0x18C0, Instr.litA25), (0x0720, Instr.litA26), (0x01B0, Instr.litA27),
      (0x0084, Instr.litA28), (0x0004, Instr.litA29), (0x00B0, Instr.litA2A), (0x0360, Instr.litA2B),
      (0x00F8, Instr.litA2C), (0x0052, Instr.litA2D), (0x0078, Instr.litA2E), (0x0130, Instr.litA2F)].all
      (fun p => reads (.token .ascii) p.1 p.2) = true := by decide +kernel
theorem test_decode_litA_30 :
    [(0x00B8, Instr.litA30), (0x0012, Instr.litA31), (0x0038, Instr.litA32), (0x00D8, Instr.litA33),
      (0x0058, Instr.litA34), (0x0098, Instr.litA35), (0x0030, Instr.litA36), (0x0018, Instr.litA37),
      (0x00E8, Instr.litA38), (0x01D0, Instr.litA39), (0x00D0, Instr.litA3A), (0x08C0, Instr.litA3B),
      (0x0120, Instr.litA3C), (0x0068, Instr.litA3D), (0x0160, Instr.litA3E), (0x0E20, Instr.litA3F)].all
      (fun p => reads (.token .ascii) p.1 p.2) = true := by decide +kernel
theorem test_decode_litA_40 :
    [(0x10C0, Instr.litA40), (0x0062, Instr.litA41), (0x00A8, Instr.litA42), (0x0022, Instr.litA43),
      (0x0042, Instr.litA44), (0x002E, Instr.litA45), (0x0028, Instr.litA46), (0x0150, Instr.litA47),
      (0x0050, Instr.litA48), (0x0002, Instr.litA49), (0x0620, Instr.litA4A), (0x0260, Instr.litA4B),
      (0x007C, Instr.litA4C), (0x00C8, Instr.litA4D), (0x003C, Instr.litA4E), (0x005C, Instr.litA4F)].all
      (fun p => reads (.token .ascii) p.1 p.2) = true := by decide +kernel
theorem test_decode_litA_50 :
    [(0x0048, Instr.litA50), (0x0A20, Instr.litA51), (0x001C, Instr.litA52), (0x006C, Instr.litA53),
      (0x002C, Instr.litA54), (0x0088, Instr.litA55), (0x0060, Instr.litA56), (0x0190, Instr.litA57),
      (0x03A0, Instr.litA58), (0x01A0, Instr.litA59), (0x0220, Instr.litA5A), (0x0090, Instr.litA5B),
      (0x0C20, Instr.litA5C), (0x02A0, Instr.litA5D), (0x00C0, Instr.litA5E), (0x0110, Instr.litA5F)].all
      (fun p => reads (.token .ascii) p.1 p.2) = true := by decide +kernel
theorem test_decode_litA_60 :
    [(0x1F40, Instr.litA60), (0x000E, Instr.litA61), (0x004C, Instr.litA62), (0x000C, Instr.litA63),
      (0x0074, Instr.litA64), (0x0036, Instr.litA65), (0x0034, Instr.litA66), (0x0054, Instr.litA67),
      (0x0014, Instr.litA68), (0x0016, Instr.litA69), (0x0420, Instr.litA6A), (0x0008, Instr.litA6B),
      (0x0026, Instr.litA6C), (0x0064, Instr.litA6D), (0x0006, Instr.litA6E), (0x003A, Instr.litA6F)].all
      (fun p => reads (.token .ascii) p.1 p.2) = true := by decide +kernel
theorem test_decode_litA_70 :
    [(0x0024, Instr.litA70), (0x0320, Instr.litA71), (0x001A, Instr.litA72), (0x002A, Instr.litA73),
      (0x000A, Instr.litA74), (0x0032, Instr.litA75), (0x0010, Instr.litA76), (0x00F0, Instr.litA77),
      (0x01E0, Instr.litA78), (0x00E0, Instr.litA79), (0x0520, Instr.litA7A), (0x0820, Instr.litA7B),
      (0x0020, Instr.litA7C), (0x0F40, Instr.litA7D), (0x1740, Instr.litA7E), (0x0740, Instr.litA7F)].all
      (fun p => reads (.token .ascii) p.1 p.2) = true := by decide +kernel
theorem test_decode_litA_80 :
    [(0x0480, Instr.litA80), (0x3880, Instr.litA81), (0x1880, Instr.litA82), (0x2880, Instr.litA83),
      (0x0880, Instr.litA84), (0x3080, Instr.litA85), (0x1080, Instr.litA86), (0x2080, Instr.litA87),
      (0x0080, Instr.litA88), (0x3F00, Instr.litA89), (0x1F00, Instr.litA8A), (0x2F00, Instr.litA8B),
      (0x0F00, Instr.litA8C), (0x3700, Instr.litA8D), (0x1700, Instr.litA8E), (0x2700, Instr.litA8F)].all
      (fun p => reads (.token .ascii) p.1 p.2) = true := by decide +kernel
theorem test_decode_litA_90 :
    [(0x0700, Instr.litA90), (0x3B00, Instr.litA91), (0x1B00, Instr.litA92), (0x2B00, Instr.litA93),
      (0x0B00, Instr.litA94), (0x3300, Instr.litA95), (0x1300, Instr.litA96), (0x2300, Instr.litA97),
      (0x0300, Instr.litA98), (0x3D00, Instr.litA99), (0x1D00, Instr.litA9A), (0x2D00, Instr.litA9B),
      (0x0D00, Instr.litA9C), (0x3500, Instr.litA9D), (0x1500, Instr.litA9E), (0x2500, Instr.litA9F)].all
      (fun p => reads (.token .ascii) p.1 p.2) = true := by decide +kernel
theorem test_decode_litA_A0 :
    [(0x0500, Instr.litAA0), (0x3900, Instr.litAA1), (0x1900, Instr.litAA2), (0x2900, Instr.litAA3),
      (0x0900, Instr.litAA4), (0x3100, Instr.litAA5), (0x1100, Instr.litAA6), (0x2100, Instr.litAA7),
      (0x0100, Instr.litAA8), (0x3E00, Instr.litAA9), (0x1E00, Instr.litAAA), (0x2E00, Instr.litAAB),
      (0x0E00, Instr.litAAC), (0x3600, Instr.litAAD), (0x1600, Instr.litAAE), (0x2600, Instr.litAAF)].all
      (fun p => reads (.token .ascii) p.1 p.2) = true := by decide +kernel
theorem test_decode_litA_B0 :
    [(0x1B40, Instr.litAB0), (0x0B40, Instr.litAB1), (0x1340, Instr.litAB2), (0x0340, Instr.litAB3),
      (0x1D40, Instr.litAB4), (0x0D40, Instr.litAB5), (0x1540, Instr.litAB6), (0x0540, Instr.litAB7),
      (0x1940, Instr.litAB8), (0x0940, Instr.litAB9), (0x1140, Instr.litABA), (0x0140, Instr.litABB),
      (0x1E40, Instr.litABC), (0x0E40, Instr.litABD), (0x1640, Instr.litABE), (0x0640, Instr.litABF)].all
      (fun p => reads (.token .ascii) p.1 p.2) = true := by decide +kernel
theorem test_decode_litA_C0 :
    [(0x1A40, Instr.litAC0), (0x0A40, Instr.litAC1), (0x1240, Instr.litAC2), (0x0240, Instr.litAC3),
      (0x1C40, Instr.litAC4), (0x0C40, Instr.litAC5), (0x1440, Instr.litAC6), (0x0440, Instr.litAC7),
      (0x1840, Instr.litAC8), (0x0840, Instr.litAC9), (0x1040, Instr.litACA), (0x0040, Instr.litACB),
      (0x1F80, Instr.litACC), (0x0F80, Instr.litACD), (0x1780, Instr.litACE), (0x0780, Instr.litACF)].all
      (fun p => reads (.token .ascii) p.1 p.2) = true := by decide +kernel
theorem test_decode_litA_D0 :
    [(0x1B80, Instr.litAD0), (0x0B80, Instr.litAD1), (0x1380, Instr.litAD2), (0x0380, Instr.litAD3),
      (0x1D80, Instr.litAD4), (0x0D80, Instr.litAD5), (0x1580, Instr.litAD6), (0x0580, Instr.litAD7),
      (0x1980, Instr.litAD8), (0x0980, Instr.litAD9), (0x1180, Instr.litADA), (0x0180, Instr.litADB),
      (0x1E80, Instr.litADC), (0x0E80, Instr.litADD), (0x1680, Instr.litADE), (0x0680, Instr.litADF)].all
      (fun p => reads (.token .ascii) p.1 p.2) = true := by decide +kernel
theorem test_decode_litA_E0 :
    [(0x0600, Instr.litAE0), (0x1A80, Instr.litAE1), (0x3A00, Instr.litAE2), (0x1A00, Instr.litAE3),
      (0x2A00, Instr.litAE4), (0x0A80, Instr.litAE5), (0x0A00, Instr.litAE6), (0x3200, Instr.litAE7),
      (0x1200, Instr.litAE8), (0x1280, Instr.litAE9), (0x2200, Instr.litAEA), (0x0200, Instr.litAEB),
      (0x3C00, Instr.litAEC), (0x1C00, Instr.litAED), (0x0280, Instr.litAEE), (0x2C00, Instr.litAEF)].all
      (fun p => reads (.token .ascii) p.1 p.2) = true := by decide +kernel
theorem test_decode_litA_F0 :
    [(0x0C00, Instr.litAF0), (0x3400, Instr.litAF1), (0x1C80, Instr.litAF2), (0x0C80, Instr.litAF3),
      (0x1480, Instr.litAF4), (0x1400, Instr.litAF5), (0x2400, Instr.litAF6), (0x0400, Instr.litAF7),
      (0x3800, Instr.litAF8), (0x1800, Instr.litAF9), (0x2800, Instr.litAFA), (0x0800, Instr.litAFB),
      (0x3000, Instr.litAFC), (0x1000, Instr.litAFD), (0x2000, Instr.litAFE), (0x0000, Instr.litAFF)].all
      (fun p => reads (.token .ascii) p.1 p.2) = true := by decide +kernel
/-- The command words of R117. -/
theorem test_decode_commands :
    decodeCommand ⟨0b000, []⟩ = .ok .xReset ∧ decodeCommand ⟨0b001, [0x41]⟩ = .ok (.xPush [0x41]) ∧
    decodeCommand ⟨0b010, []⟩ = .ok .xFinish ∧ decodeCommand ⟨0b100, [0x01, 0x05]⟩ = .ok (.iReset 0x01 0x05) ∧
    decodeCommand ⟨0b101, [0x41, 0x42]⟩ = .ok (.iPush [0x41, 0x42]) ∧ decodeCommand ⟨0b110, []⟩ = .ok .iFinish := by
  decide
theorem test_decode_reserved :
    decodeCommand ⟨0b011, []⟩ = .error .reserved ∧ decodeCommand ⟨0b111, []⟩ = .error .reserved ∧
    decodeCommand ⟨0b000, [0x00]⟩ = .error .malformedOperand ∧ decodeCommand ⟨0b100, [0x00]⟩ = .error .malformedOperand := by
  decide

/-! ### Well-formedness: a term each check refuses -/

theorem test_illFormed_space :
    wellFormed std .host (.litB 0) = false ∧ wellFormed std .header .xReset = false ∧
    wellFormed std (.token .binary) (.header 0 4 0) = false ∧ wellFormed std (.token .binary) (.dist0 0) = false ∧
    wellFormed std (.distance 3 .small 0x0F) .len0 = false := by decide
theorem test_illFormed_literal_mode :
    wellFormed std (.token .ascii) (.litB 0) = false ∧ wellFormed std (.token .binary) .litA00 = false := by decide
theorem test_illFormed_end_as_length : wellFormed std (.token .binary) (.len15 0xFF) = false := by decide
theorem test_illFormed_extra_too_wide :
    wellFormed std (.token .binary) (.len1 1) = false ∧
    wellFormed std (.token .binary) (.len8 2) = false := by decide
theorem test_illFormed_low_too_wide :
    wellFormed std (.distance 2 .large 0x3F) (.dist0 4) = false ∧ wellFormed std (.distance 3 .small 0x0F) (.dist0 0x10) = false := by
  decide
theorem test_illFormed_mask : wellFormed std (.distance 3 .small 0x1F) (.dist0 0) = false := by decide

/-! ### The generators (T1) and the buffer (T3, T4) -/

/-- T1: over 4 slots the result is `[0, 1, 1, 1]`. -/
theorem test_T1 : generateDecodeTables 4 [0, 1] [1, 0] = [0, 1, 1, 1] := by decide
/-- T3: `flushStart(2)` after appending `[1,2,3,4,5]`. -/
theorem test_T3 : (Buffer.new.append [1, 2, 3, 4, 5]).flushStart 2 = .next
    { heap := [(0, 3), (1, 4), (2, 5), (3, 4), (4, 5)], capacity := 5, start := 0, stop := 3, saved := none } := rfl
/-- T4: `dropStart(2)` on the same buffer leaves the heap as it was. -/
theorem test_T4 : (Buffer.new.append [1, 2, 3, 4, 5]).dropStart 2 =
    { heap := [(0, 1), (1, 2), (2, 3), (3, 4), (4, 5)], capacity := 5, start := 2, stop := 5, saved := none } := by decide

/-- R147's example; a negative operand changes nothing; restoring what was never saved is refused (R153). -/
theorem test_flushEnd :
    (Buffer.new.append [1, 2, 3, 4, 5]).flushEnd 2 = .next
      { heap := [(0, 1), (1, 2), (2, 3), (3, 4), (4, 5)], capacity := 5, start := 0, stop := 3, saved := none } ∧
    (Buffer.new.append [1, 2]).flushEnd (-1) = .next (Buffer.new.append [1, 2]) ∧
    (Buffer.new.append [1, 2]).flushStart (-1) = .next (Buffer.new.append [1, 2]) ∧
    Buffer.new.restoreIndices = .refused .bufferPrecondition := ⟨rfl, rfl, rfl, rfl⟩

/-! ### Single steps -/

/-- The operation answers a next state with the property. -/
def nextWith {α : Type} (o : Answer α) (p : α → Bool) : Bool :=
  match o with
  | .next t => p t
  | _ => false

theorem exists_of_nextWith {α : Type} {o : Answer α} {p : α → Bool} (h : nextWith o p = true) :
    ∃ t, o = .next t ∧ p t = true := by
  cases o with
  | next t => exact ⟨t, rfl, h⟩
  | fault f => cases h
  | refused r => cases h

/-- The last answer of a state. -/
def lastAnswer (s : State) : Option (Status × ErrorCode × List Byte) := s.responses.getLast?.map fun r => (r.status, r.err, r.out)

/-- An EXPLODE unit at a token boundary: the reader and the output given. -/
def decodingAt (bitBuffer : BitVec 16) (extraBits : BitVec 4) (input out : List Byte) : XUnit :=
  { XUnit.reset std with
    xstate := .decoding, headerParsed := true, bitBuffer := bitBuffer, extraBits := extraBits
    inBuf := Buffer.new.append input, outBuf := Buffer.new.append out }

/-- T20 and R195: the stream after its header, with nothing decoded yet; the compressor fresh from `I.RESET(0, 4)`. -/
def mid : State := { State.reset with x := decodingAt 0x0082 0 [0x24, 0x25, 0x8F, 0x80, 0x7F] [], i := setupI std .binary .small }

/-- R221: the 4th byte of T20 brings the header; before it nothing is examined. -/
theorem test_push_short : nextWith (exec (.xPush [0x02, 0x07, 0x00]) State.reset)
    (fun t => lastAnswer t == some (.ready, .none, []) && t.x.xstate == .awaitingHeader &&
      t.x.inBuf.contents == [0x02, 0x07, 0x00]) = true := by decide
theorem test_push_header_next : nextWith (exec (.xPush [0x00, 0x04, 0x82, 0x24]) State.reset)
    (fun t => t.responses == [] && t.x.space? == some .header) = true := by decide
/-- R205 on T20's header. -/
theorem test_header : nextWith (exec (.header 0x00 0x04 0x82)
      { State.reset with x := { XUnit.reset std with inBuf := Buffer.new.append [0x00, 0x04, 0x82, 0x24] } })
    (fun t => t.x.xstate == .decoding && t.x.mode == .binary && t.x.dictBits == .small && t.x.distMask == 0x0F && t.x.window == 0x400 &&
      t.x.bitBuffer == 0x0082 && t.x.extraBits == 0 && t.x.inBuf.contents == [0x24]) = true := by decide
/-- T7: both bytes illegal, byte 0 is reported. -/
theorem test_header_priority : nextWith (exec (.header 0x02 0x07 0x00)
      { State.reset with x := { XUnit.reset std with inBuf := Buffer.new.append [0x02, 0x07, 0x00, 0x00] } })
    (fun t => lastAnswer t == some (.error, .invalidCompressionType, []) && t.x.xstate == .error) = true := by decide
/-- R195, steps 1 and 2. -/
theorem test_step_literal : nextWith (step mid)
    (fun t => t.x.outBuf.contents == [0x41] && t.x.bitBuffer == 0x1292 && t.x.extraBits == 7 &&
      t.x.inBuf.contents == [0x8F, 0x80, 0x7F]) = true := by decide
/-- R195, steps 5 to 7: the length part of `COPY len=11`. -/
theorem test_step_length : nextWith (step { mid with x := decodingAt 0x23C9 6 [0x80, 0x7F] [0x41, 0x49] })
    (fun t => t.x.repeatLength == some 11 && t.x.bitBuffer == 0x4047 && t.x.extraBits == 7) = true := by decide
/-- R195, steps 8 and 9: distance 2. -/
theorem test_step_distance : nextWith (step { mid with x :=
      { decodingAt 0x4047 7 [0x7F] [0x41, 0x49] with repeatLength := some 11 } })
    (fun t => t.x.outBuf.contents == [0x41, 0x49, 0x41, 0x49, 0x41, 0x49, 0x41, 0x49, 0x41, 0x49, 0x41, 0x49, 0x41] &&
      t.x.bitBuffer == 0x0101 && t.x.extraBits == 1) = true := by decide
/-- R195, steps 10 to 12: END through the special case of R186. -/
theorem test_step_end : nextWith (step { mid with x := decodingAt 0x0101 1 [0x7F] [0x41] })
    (fun t => t.x.xstate == .complete && t.x.endOfStream && lastAnswer t == some (.done, .none, []) &&
      t.x.outBuf.contents == [0x41]) = true := by decide
/-- T9: length 10 at distance 1 repeats the last byte ten times. -/
theorem test_copy_run : nextWith (exec (.dist0 0) { mid with x :=
      { decodingAt 0 0 [] [0x58] with repeatLength := some 10 } })
    (fun t => t.x.outBuf.contents == List.replicate 11 0x58) = true := by decide
/-- T36: the literal before the fault is delivered with the error. -/
theorem test_distance_error : nextWith (exec (.dist0 1) { mid with x :=
      { decodingAt 0 0 [] [0x58] with repeatLength := some 3 } })
    (fun t => lastAnswer t == some (.error, .distanceBeyondHistory, [0x58]) && t.x.xstate == .error &&
      t.x.outBuf.contents == []) = true := by decide
/-- P1: after `X.PUSH 24` the flag bit's byte is back. -/
theorem test_step_suspends : nextWith (step { mid with x := decodingAt 0x0082 0 [0x24] [] })
    (fun t => t.x.xstate == .suspended && t.x.bitBuffer == 0x0082 && t.x.extraBits == 0 &&
      t.x.inBuf.contents == [0x24] && lastAnswer t == some (.ready, .none, [])) = true := by decide
/-- T38: `X.FINISH` before END delivers the output so far with `Aborted`. -/
theorem test_finish_aborted : nextWith (exec .xFinish { mid with x :=
      { decodingAt 0x1292 7 [] [0x41] with xstate := .suspended, needMoreInput := true } })
    (fun t => lastAnswer t == some (.error, .aborted, [0x41])) = true := by decide
theorem test_finish_complete : nextWith (exec .xFinish { mid with x :=
      { decodingAt 0x00FF 1 [] [0x41, 0x49] with xstate := .complete, endOfStream := true } })
    (fun t => lastAnswer t == some (.done, .none, [0x41, 0x49]) && t.x.outBuf.contents == []) = true := by decide

/-- R231: the header waits in `outBuf`. -/
theorem test_iReset : nextWith (exec (.iReset 0x01 0x06) State.reset)
    (fun t => lastAnswer t == some (.ready, .none, []) && t.i.outBuf.contents == [0x01, 0x06, 0x00] &&
      t.i.window == 0x1000 && t.i.distMask == 0x3F) = true := by decide +kernel
/-- T46: mode first, then size. -/
theorem test_iReset_illegal :
    nextWith (exec (.iReset 2 7) State.reset) (fun t => lastAnswer t == some (.error, .invalidCompressionType, [])) = true ∧
    nextWith (exec (.iReset 0 3) State.reset) (fun t => lastAnswer t == some (.error, .invalidDictionarySize, [])) = true := by
  decide +kernel
/-- R266: two bytes wait for the end of the stream. -/
theorem test_iPush_holds : nextWith (exec (.iPush [0x41, 0x42]) mid)
    (fun t => lastAnswer t == some (.ready, .none, []) && t.i.inBuf.contents == [0x41, 0x42] &&
      t.i.outBuf.contents == [0x00, 0x04, 0x00] && t.i.cursor == 0) = true := by decide +kernel
/-- T2, R266: `41 42` in Binary mode. -/
theorem test_iFinish : nextWith (exec .iFinish { mid with i :=
      { setupI std .binary .small with inBuf := Buffer.new.append [0x41, 0x42] } })
    (fun t => lastAnswer t == some (.done, .none, [0x00, 0x04, 0x82, 0x08, 0x05, 0xFC, 0x03]) &&
      t.i.istate == .finalized) = true := by decide +kernel
/-- T47: `41 41 41 41` in Ascii mode has a match of two bytes. -/
theorem test_iFinish_match : nextWith (exec .iFinish { mid with i :=
      { setupI std .ascii .small with inBuf := Buffer.new.append [0x41, 0x41, 0x41, 0x41] } })
    (fun t => lastAnswer t == some (.done, .none, [0x01, 0x04, 0x62, 0xF1, 0x5E, 0xC0, 0x3F])) = true := by decide +kernel
/-- T40, rows 1, 2, 5 and 8. -/
theorem test_findRepetitions :
    findRepetitions [0x41, 0x49, 0x41, 0x49, 0x41, 0x49, 0x41, 0x49, 0x41, 0x49, 0x41, 0x49, 0x41] 2 = (11, 1) ∧
    findRepetitions [0x61, 0x62, 0x63, 0x61, 0x62, 0x63, 0x61, 0x62, 0x64] 3 = (5, 2) ∧
    findRepetitions [0x61, 0x62, 0x63, 0x64, 0x61, 0x62, 0x63, 0x78, 0x61, 0x62, 0x63, 0x64, 0x5A] 8 = (4, 7) ∧
    findRepetitions [0x61, 0x61, 0x61, 0x61] 2 = (2, 1) := by decide
/-- A host command is taken when no push runs. -/
theorem test_step_host : nextWith (step { State.reset with host := [⟨0b010, []⟩, ⟨0b000, []⟩] })
    (fun t => lastAnswer t == some (.error, .aborted, []) && t.host == [⟨0b000, []⟩]) = true := by decide
theorem test_withFetchWord :
    nextWith (step (State.reset.withFetchWord 8 0b011110)) (fun t => t.x.outBuf.contents == [0x20]) = true ∧
    fetch (State.reset.withFetchWord 16 0xFF01) ≠ .idle := by decide +kernel

/-- R221's stream and its output. -/
def T20 : List Byte := [0x00, 0x04, 0x82, 0x24, 0x25, 0x8F, 0x80, 0x7F]
def T20out : List Byte := [0x41, 0x49, 0x41, 0x49, 0x41, 0x49, 0x41, 0x49, 0x41, 0x49, 0x41, 0x49, 0x41]

/-- R351: a pair saved before a reallocating append runs past the new capacity; the window then holds a byte without a
value, and a read of it faults (log entry 7). -/
theorem test_read_stale :
    let b := ((Buffer.new.append [1, 2, 3, 4]).dropStart 2).saveIndices.append [5]
    let c := { b with start := 2, stop := 4 }
    b.contents = [3, 4, 5] ∧ b.capacity = 3 ∧ b.restoreIndices = .next c ∧ c.readByte 0 = .next 5 ∧
    c.readByte 1 = .fault .unwrittenByte ∧ c.read 0 2 = .fault .unwrittenByte :=
  ⟨by decide, by decide, rfl, rfl, rfl, rfl⟩

/-- In the same window `setByte` gives the byte past the capacity a value (log entry 7). -/
theorem test_setByte_stale :
    let b := ((Buffer.new.append [1, 2, 3, 4]).dropStart 2).saveIndices.append [5]
    let c := { b with start := 2, stop := 4 }
    ∃ d, c.setByte (-1) 9 = .next d ∧ d.contents = [5, 9] ∧ d.capacity = 3 ∧ d.readByte 1 = .next 9 :=
  ⟨_, rfl, by decide, rfl, rfl⟩

/-- R236: with three bytes the first two go out as literals (R105: 9 bits each); with two only the flag is set. -/
theorem test_firstTwoBytes :
    nextWith (firstTwoBytes { setupI std .binary .small with inBuf := Buffer.new.append [0x41, 0x42, 0x43] })
      (fun i => i.outBuf.contents == [0x00, 0x04, 0x82, 0x08, 0x01] && i.outBits == 2 && i.cursor == 2 &&
        i.handledFirstTwoBytes) = true ∧
    nextWith (firstTwoBytes { setupI std .binary .small with inBuf := Buffer.new.append [0x41, 0x42] })
      (fun i => i.outBuf.contents == [0x00, 0x04, 0x00] && i.cursor == 0 && i.handledFirstTwoBytes) = true := by
  decide +kernel
/-- R237: with the hold 0x204 bytes of lookahead are needed, and 0x203 do not do. -/
theorem test_enabled :
    enabled true { IUnit.blank with inBuf := { Buffer.new with stop := 0x205 }, cursor := 1 } = true ∧
    enabled true { IUnit.blank with inBuf := { Buffer.new with stop := 0x204 }, cursor := 1 } = false ∧
    enabled true { IUnit.blank with inBuf := { Buffer.new with stop := 2 }, cursor := 1, streamEnded := true } = true ∧
    enabled false { IUnit.blank with inBuf := { Buffer.new with stop := 2 } } = false ∧
    enabled false { IUnit.blank with inBuf := { Buffer.new with stop := 3 } } = true ∧
    enabled false { IUnit.blank with inBuf := { Buffer.new with stop := 2 }, handledFirstTwoBytes := true } = true := by
  decide

/-- R221 items 1 and 3: the whole stream, and its first seven bytes. -/
theorem test_summary :
    explodeSummary std T20 = (T20out, .done, .none) ∧ explodeSummary std T20.dropLast = (T20out, .error, .aborted) := by
  decide +kernel
/-- R242 item 2 with its literals, R266, R253's empty input, and the compression of R221's output (T20). -/
theorem test_implodeSummary :
    tokensOf 0x400 5 [0x41, 0x41, 0x41, 0x41, 0x41] 0 = [.literal 0x41, .literal 0x41, .copy 3 1] ∧
    implodeSummary std .binary .small [0x41, 0x42] = [0x00, 0x04, 0x82, 0x08, 0x05, 0xFC, 0x03] ∧
    implodeSummary std .binary .small [] = [0x00, 0x04, 0x01, 0xFF, 0x00] ∧
    implodeSummary std .binary .small T20out = T20 := by decide +kernel
/-- R221 item 3, as commands: `X.FINISH` after seven bytes. -/
theorem test_session_truncated :
    nextWith (Host.Core.run Sys2Proof.core 13 { State.reset with host := explodeSession [[0x00, 0x04, 0x82], [0x24, 0x25, 0x8F, 0x80]] })
      (fun t => t.host == [] && t.responses == [⟨.ready, .none, []⟩, ⟨.ready, .none, []⟩, ⟨.ready, .none, []⟩,
        ⟨.error, .aborted, T20out⟩]) = true := by decide +kernel

/-! ### Substituted Static Code Tables (R119, U10) -/

/-- Tables with two length codes that collide: item 3 of R119 is violated. -/
def colliding : CodeTables := .substitute { TableValues.standard with lenCode := std.lenCode.set 0 0x01 }

/-- Two distance-position codes exchanged, and `LEN.7` with the extra bit of `LEN.8`: R119 is still satisfied. -/
def other : CodeTables := .substitute { TableValues.standard with
  distCode := (std.distCode.set 1 (std.distCode.getD 2 0)).set 2 (std.distCode.getD 1 0)
  exLenBits := (std.exLenBits.set 7 1).set 8 0
  lenBase := std.lenBase.set 8 9 }

theorem test_colliding_refused : colliding.constrained = false := by decide +kernel
theorem colliding_illegal : colliding.legal = false := by
  unfold CodeTables.legal
  rw [test_colliding_refused, Bool.false_and, Bool.false_and]
theorem test_other_constrained : other.constrained = true := by
  unfold CodeTables.constrained
  rw [show other.asciiFamily = std.asciiFamily from rfl, standard_asciiPrefixFree]
  decide +kernel
theorem other_legal : other.legal = true := by
  have h : other.asciiReady = std.asciiReady := asciiReady_congr rfl rfl
  unfold CodeTables.legal
  rw [test_other_constrained, h, ((legal_iff std).1 standard_legal).2.2]
  decide +kernel
/-- What was `DIST.1` is read as `DIST.2`, and `LEN.7` has an extra bit. -/
theorem test_other_decode :
    decode std (.built std) tableDistance (tableReader 0x0D) = .instr (.dist1 0) ⟨0, 0, [0, 0, 0]⟩ ∧
    decode other (.built other) tableDistance (tableReader 0x0D) = .instr (.dist2 0) ⟨0, 0, [0, 0, 0]⟩ ∧
    decode other (.built other) (.token .binary) (tableReader 0x69) = .instr (.len7 1) ⟨0, 1, [0, 0, 0]⟩ ∧
    encode other (.token .binary) (.len7 1) = ⟨7, 0x69⟩ := by
  decide +kernel

/-! ### Values that meet the hypotheses of the statements -/

theorem decodingAt_inv (bitBuffer : BitVec 16) (extraBits : BitVec 4) (input out : List Byte)
    (h : (BitReader.mk bitBuffer extraBits []).wf = true) : (decodingAt bitBuffer extraBits input out).Inv std where
  inBufWf := wf_append buffer_new_wf input
  outBufWf := wf_append buffer_new_wf out
  readerWf := h
  geometry := ⟨rfl, rfl⟩
  flags := rfl
  header := ⟨fun _ e => XState.noConfusion e, fun e => Bool.noConfusion e⟩
  error := ⟨⟨fun _ e => XState.noConfusion e, fun _ => rfl⟩, fun e => ErrorCode.noConfusion e⟩
  denseTables := ⟨rfl, rfl⟩
  asciiTables := fun e => CompressionMode.noConfusion e
  noOutput := fun e => XState.noConfusion e
  midCopy := by intro n e; cases e

theorem setupI_encoding : (setupI std .binary .small).Encoding std where
  live := rfl
  packed := ⟨0x00, by decide, by decide⟩
  tables := ⟨rfl, rfl⟩
  geometry := ⟨rfl, rfl⟩
  cursor := by decide
  firstTwo := fun _ => rfl
  inBufWf := rfl
  outBufWf := wf_append buffer_new_wf _

theorem setupI_inv : (setupI std .binary .small).Inv std where
  inBufWf := rfl
  outBufWf := wf_append buffer_new_wf _
  geometry := ⟨rfl, rfl⟩
  settled := fun _ => ⟨fun e => IState.noConfusion e, fun e => IState.noConfusion e⟩
  error := ⟨⟨fun _ e => IState.noConfusion e, fun _ => rfl⟩, .inl rfl⟩
  accumulating := fun _ => ⟨setupI_encoding, rfl⟩

/-- A state with the invariant, its EXPLODE unit in the middle of a push. -/
theorem mid_with_inv (bitBuffer : BitVec 16) (extraBits : BitVec 4) (input out : List Byte)
    (h : (BitReader.mk bitBuffer extraBits []).wf = true) :
    ({ mid with x := decodingAt bitBuffer extraBits input out } : State).Inv where
  cfg := standard_config_legal
  x := decodingAt_inv bitBuffer extraBits input out h
  i := setupI_inv
  responses := fun _ h => nomatch h

theorem witness_StepKeepsInv : mid.Inv ∧ ∃ t, step mid = .next t :=
  ⟨mid_with_inv _ _ _ _ rfl, _, rfl⟩

theorem witness_StepRunsDecoded_stream :
    mid.x.space? = some (.token .binary) ∧ ∃ i r, decode mid.cfg.tables mid.x.tables (.token .binary) mid.x.reader = .instr i r :=
  ⟨rfl, _, _, rfl⟩
theorem witness_StepRunsDecoded_starved :
    let s : State := { mid with x := decodingAt 0x0082 0 [0x24] [] }
    s.x.space? = some (.token .binary) ∧ ∃ r, decode s.cfg.tables s.x.tables (.token .binary) s.x.reader = .needMoreInput r :=
  ⟨rfl, _, rfl⟩
theorem witness_StepRunsDecoded_host :
    let s : State := { State.reset with host := [⟨0b010, []⟩] }
    s.x.space? = none ∧ s.host = [⟨0b010, []⟩] ∧ decodeCommand ⟨0b010, []⟩ = .ok .xFinish := by decide
theorem witness_StepRunsDecoded_idle : State.reset.x.space? = none ∧ State.reset.host = [] := by decide

/-- 17 bits are just enough for a 9-bit literal; END needs its own 16 (R193). -/
theorem witness_DecodeEncode :
    let r : BitReader := ⟨0x0082, 1, [0xFF]⟩
    std.legal = true ∧ (Space.token .binary).inStream = true ∧ (DecodeTables.built std).ready std (.token .binary) = true ∧
    wellFormed std (.token .binary) (.litB 0x41) = true ∧ r.wf = true ∧ r.avail = 17 ∧
    r.bits % 2 ^ (encode std (.token .binary) (.litB 0x41)).width = (encode std (.token .binary) (.litB 0x41)).bits :=
  ⟨standard_legal, by decide +kernel⟩
theorem witness_DecodeEncode_end :
    let r : BitReader := ⟨0x0001, 0, [0xFF]⟩
    std.legal = true ∧ wellFormed std (.token .ascii) .endToken = true ∧ ((DecodeTables.built std).withAscii std).ready std (.token .ascii) = true ∧
    r.wf = true ∧ r.avail = 16 ∧ r.bits % 2 ^ (encode std (.token .ascii) .endToken).width = 0xFF01 :=
  ⟨standard_legal, by decide +kernel⟩
theorem witness_DecodeEncode_distance :
    let sp : Space := .distance 2 .large 0x3F
    let r : BitReader := ⟨0x000B, 4, []⟩
    std.legal = true ∧ sp.inStream = true ∧ (DecodeTables.built std).ready std sp = true ∧ wellFormed std sp (.dist0 2) = true ∧ r.wf = true ∧
    r.avail = 12 ∧ r.bits % 2 ^ (encode std sp (.dist0 2)).width = (encode std sp (.dist0 2)).bits :=
  ⟨standard_legal, by decide +kernel⟩
theorem witness_DecodeSound :
    std.legal = true ∧ std.complete = true ∧ (Space.token .binary).inStream = true ∧ (DecodeTables.built std).ready std (.token .binary) = true ∧
    (BitReader.mk 0x0082 0 [0x24, 0x25]).wf = true ∧
    decode std (.built std) (.token .binary) ⟨0x0082, 0, [0x24, 0x25]⟩ = .instr (.litB 0x41) ⟨0x1292, 7, []⟩ :=
  ⟨standard_legal, standard_complete, by decide +kernel⟩
theorem witness_DecodeTotal :
    std.legal = true ∧ (Space.distance 0x206 .large 0x3F).inStream = true ∧ (DecodeTables.built std).ready std (.distance 0x206 .large 0x3F) = true ∧
    (BitReader.mk 0x7FFF 7 []).wf = true :=
  ⟨standard_legal, by decide +kernel⟩
theorem witness_DecodeMoreInput :
    std.legal = true ∧ decode std (.built std) (.token .binary) ⟨0x0101, 1, [0x7F]⟩ = .instr .endToken ⟨0x00FF, 1, []⟩:=
  ⟨standard_legal, by decide +kernel⟩
/-- At the edges `n = 1` and `n = 8`, with and without a byte waiting. -/
theorem witness_WasteBits :
    (BitReader.mk 0x0082 0 []).wf = true ∧ (BitReader.mk 0x0082 0 []).wasteBits 1 = none ∧
    (BitReader.mk 0x7FFF 7 [0x01]).wf = true ∧ (BitReader.mk 0x7FFF 7 [0x01]).wasteBits 8 = some ⟨0x00FF, 7, []⟩ := by
  decide
theorem witness_ReservedCommand :
    let s : State := { State.reset with host := [⟨0b111, []⟩, ⟨0b011, []⟩] }
    s.x.space? = none ∧ s.host = ⟨0b111, []⟩ :: [⟨0b011, []⟩] := by decide
theorem witness_PopulateStride : 3 < [0, 0, 0, 0].length ∧ populate [0, 0, 0, 0] 1 1 7 = [0, 7, 0, 7] := by decide

theorem witness_EncodeTables :
    std.legal = true ∧ wellFormed std (.token .ascii) (lengthPart 0 0) = true ∧ (0 < 16 ∧ 0 < 2 ^ std.exLenBits.getD 0 0) ∧
    wellFormed std (.token .binary) (lengthPart 15 0xFE) = true ∧ (15 < 16 ∧ 0xFE < 2 ^ std.exLenBits.getD 15 0) :=
  ⟨standard_legal, by decide +kernel⟩
theorem witness_Peek : 0 ≤ 8 ∧ (BitReader.mk 0x4047 7 []).peek 8 = 0x47 := by decide
theorem witness_BufferSoftDeletes :
    let b := Buffer.new.append [1, 2, 3]
    b.wf = true ∧ b.start + 2 < b.stop ∧ b.stop ≤ b.start + 3 ∧ b.start < b.stop - 2 ∧ b.stop - 3 ≤ b.start ∧ b.saved = none ∧
    ∀ f ∈ [fun c : Buffer => c.dropStart 1, fun c => c.dropEnd 9], ∃ m, f = (fun c => c.dropStart m) ∨ f = (fun c => c.dropEnd m) := by
  refine ⟨rfl, by decide, by decide, by decide, by decide, rfl, fun f hf => ?_⟩
  rcases List.mem_pair.1 hf with rfl | rfl
  · exact ⟨1, .inl rfl⟩
  · exact ⟨9, .inr rfl⟩
theorem witness_BufferReads :
    let b := Buffer.new.append [1, 2, 3]
    b.wf = true ∧ ((-1 : Int) < 0 ∧ (0 : Int) ≤ 0) ∧ 2 < b.size ∧ b.size ≤ 3 ∧ b.read 2 1 = .next (.one 3) ∧
      b.read 1 5 = .next (.many [2, 3]) := ⟨rfl, by decide, by decide, by decide, rfl, rfl⟩
/-- A buffer of capacity 5 that holds one byte: four more fit, five do not. -/
theorem witness_BufferAppend :
    let b := (Buffer.newSized 5).append [1]
    b.wf = true ∧ b.stop + 4 ≤ b.capacity ∧ b.capacity < b.stop + 5 := by decide
theorem witness_BufferHardDeletes :
    let b := (Buffer.newSized 5).append [1, 2]
    b.wf = true ∧ (((0 : Nat) : Int) = min (max (-1 : Int) 0) b.capacity) ∧
    (((2 : Nat) : Int) = min (max (2 : Int) 0) b.capacity ∧ 0 < 2 ∧ 2 ≤ b.size) ∧
    (((5 : Nat) : Int) = min (max (9 : Int) 0) b.capacity ∧ b.size < 5) := by
  decide
theorem witness_BufferSetByte :
    let b := Buffer.new.append [1, 2, 3]
    b.wf = true ∧ 0 < b.size ∧ 2 < b.size ∧ ((-1 : Int) = ((2 : Nat) : Int) - b.size) ∧
      ((-3 : Int) = ((0 : Nat) : Int) - b.size) ∧ ((b.size : Int) ≤ 3) ∧ ((-4 : Int) < -(b.size : Int)) := by decide
theorem witness_Drain :
    let b := Buffer.new.append [1, 2, 3, 4]
    b.wf = true ∧ b.size ≤ 4 ∧ 3 < b.size ∧ 1 < b.size := by decide

theorem witness_HeaderResult :
    let s : State := { State.reset with x := { XUnit.reset std with inBuf := Buffer.new.append [0x00, 0x04, 0x82, 0x24] } }
    s.x.xstate = .awaitingHeader ∧ 4 ≤ s.x.inBuf.size ∧ s.x.inBuf.wf = true ∧ s.x.outBuf.wf = true := by decide
theorem witness_HeaderErrors :
    let s : State := { State.reset with x := { XUnit.reset std with inBuf := Buffer.new.append [0x02, 0x07, 0x00, 0x00] } }
    (s.x.xstate = .awaitingHeader ∧ 4 ≤ s.x.inBuf.size ∧ s.x.outBuf.wf = true) ∧
    ((0x02 : Byte) ≠ 0 ∧ (0x02 : Byte) ≠ 1) ∧
    ((0x01 : Byte) = 0 ∨ (0x01 : Byte) = 1) ∧ (0x03 : Byte) ≠ 4 ∧ (0x03 : Byte) ≠ 5 ∧ (0x07 : Byte) ≠ 6 := by decide
theorem witness_LiteralResult :
    Instr.shape (.litB 0x41) = .literalBinary 0x41 ∧ Instr.shape .litAFF = .literalAscii 0xFF ∧
    mid.x.xstate = .decoding ∧ mid.x.outBuf.wf = true := by decide
theorem witness_LengthResult :
    mid.cfg.tables.legal = true ∧ Instr.shape .len0 = .length 0 0 ∧ Instr.shape (.len15 0xFE) = .length 15 0xFE ∧ ¬(15 = 15 ∧ 0xFE = 0xFF) ∧
    mid.x.xstate = .decoding :=
  ⟨standard_legal, by decide +kernel⟩
theorem witness_EndResult :
    mid.cfg.tables.legal = true ∧ mid.x.xstate = .decoding ∧ mid.x.outBuf.wf = true :=
  ⟨standard_legal, by decide +kernel⟩
/-- The greatest distance the history reaches. -/
theorem witness_DistanceResult :
    let s : State := { mid with x := { decodingAt 0 0 [] [0x58, 0x59] with repeatLength := some 2 } }
    Instr.shape (.dist0 1) = .distance 0 1 ∧ s.x.xstate = .decoding ∧ s.x.repeatLength = some 2 ∧
    s.x.outBuf.wf = true ∧ ((0 <<< 2) ||| (1 : BitVec 6).toNat) + 1 = s.x.outBuf.size := by decide
/-- One more than the history. -/
theorem witness_DistanceError :
    let s : State := { mid with x := { decodingAt 0 0 [] [0x58, 0x59] with repeatLength := some 3 } }
    Instr.shape (.dist0 2) = .distance 0 2 ∧ s.x.xstate = .decoding ∧ s.x.repeatLength = some 3 ∧
    s.x.outBuf.wf = true ∧
    ((0 <<< s.x.dictBits.bits) ||| (2 : BitVec 6).toNat) + 1 = s.x.outBuf.size + 1 := by decide
theorem witness_TokensRefused :
    wellFormed std (.token .binary) (.litB 0) = true ∧ wellFormed std (.token .ascii) .litA00 = true ∧
    State.reset.x.xstate ≠ .decoding ∧ (mid.x.xstate = .decoding ∧ mid.x.repeatLength = none) ∧
    State.reset.x.inBuf.size < 4 ∧ mid.x.xstate ≠ .awaitingHeader := by decide

/-- Three bytes in all, and four. -/
theorem witness_XPushResult :
    State.reset.x.live = true ∧ State.reset.x.inBuf.wf = true ∧ State.reset.x.xstate = .awaitingHeader ∧
    State.reset.x.inBuf.size + [0x00, 0x04, 0x82].length < 4 ∧
    4 ≤ State.reset.x.inBuf.size + [0x00, 0x04, 0x82, 0x24].length := by decide
/-- A suspended, a complete and a failed unit. -/
def suspendedAt : XUnit := { decodingAt 0x0082 0 [0x24] [0x41] with xstate := .suspended, needMoreInput := true }
def completeAt : XUnit := { decodingAt 0x00FF 1 [] [0x41] with xstate := .complete, endOfStream := true }
def failed : XUnit := { decodingAt 0 0 [] [] with xstate := .error, err := .aborted }
theorem witness_XPushResult_suspended :
    suspendedAt.live = true ∧ suspendedAt.inBuf.wf = true ∧ suspendedAt.xstate = .suspended := by decide
theorem witness_XFinishResult :
    (completeAt.live = true ∧ completeAt.xstate = .complete ∧ completeAt.outBuf.wf = true) ∧
    (failed.live = true ∧ failed.xstate = .error ∧ failed.outBuf.wf = true) ∧
    (suspendedAt.live = true ∧ suspendedAt.outBuf.wf = true ∧ suspendedAt.xstate = .suspended) ∧
    (State.reset.x.live = true ∧ State.reset.x.outBuf.wf = true ∧ State.reset.x.xstate = .awaitingHeader ∧
      State.reset.x.inBuf.size < 4) := by decide
theorem witness_XErrorSticky :
    let s : State := { mid with x := failed }
    s.cfg.tables.legal = true ∧ s.x.live = true ∧ s.x.xstate = .error:=
  ⟨standard_legal, by decide +kernel⟩
theorem witness_XCompleteIgnores :
    let s : State := { mid with x := completeAt }
    s.cfg.tables.legal = true ∧ s.x.live = true ∧ s.x.xstate = .complete:=
  ⟨standard_legal, by decide +kernel⟩
theorem witness_CommandsRefused :
    ({ XUnit.reset std with live := false } : XUnit).live = false ∧ State.reset.i.live = false ∧
    mid.x.space?.isSome = true := by decide
theorem witness_CommandsRefused_tables :
    (State.resetWith { Config.standard with tables := colliding }).cfg.tables.legal = false := colliding_illegal

theorem witness_SuspendRestores :
    let s : State := { mid with x := decodingAt 0x0082 0 [0x24] [] }
    s.Inv ∧ s.x.space? = some (.token .binary) ∧
    ∃ r, decode s.cfg.tables s.x.tables (.token .binary) s.x.reader = .needMoreInput r :=
  ⟨mid_with_inv _ _ _ _ rfl, rfl, _, rfl⟩
/-- `LEN.1` takes the last three extra bits, and its distance part finds none. -/
theorem witness_CopyRollback :
    let s : State := { mid with x := decodingAt 0x0007 3 [] [0x58] }
    s.Inv ∧ s.x.space? = some (.token .binary) ∧ ∃ s₁, step s = .next s₁ ∧ decide (s₁.x.repeatLength = some 3 ∧
      decode s₁.cfg.tables s₁.x.tables (.distance 3 s₁.x.dictBits s₁.x.distMask) s₁.x.reader
        = .needMoreInput ⟨0x0000, 0, []⟩) = true :=
  ⟨mid_with_inv _ _ _ _ rfl, rfl, exists_of_nextWith (by decide +kernel)⟩
theorem witness_PushProgress : mid.Inv ∧ mid.x.space? = some (.token .binary) :=
  ⟨mid_with_inv _ _ _ _ rfl, rfl⟩
theorem witness_PushEnds : mid.Inv ∧ mid.x.space?.isSome = true := ⟨mid_with_inv _ _ _ _ rfl, rfl⟩

theorem witness_OutputBits :
    mid.i.outBuf.wf = true ∧ mid.i.Packed ∧ (1 ≤ 1 ∧ 1 < 2 ^ 1) ∧ (16 ≤ 16 ∧ 0xFF01 < 2 ^ 16) :=
  ⟨setupI_encoding.outBufWf, setupI_encoding.packed, by decide, by decide⟩
theorem witness_EmitLiteral :
    std.legal = true ∧ (mid.i.Encoding std ∧ mid.i.mode = .binary) ∧ (setupI std .ascii .small).Encoding std ∧ (setupI std .ascii .small).mode = .ascii :=
  ⟨standard_legal, ⟨setupI_encoding, rfl⟩,
    { live := rfl, packed := ⟨0x00, by decide, by decide⟩, tables := ⟨rfl, rfl⟩, geometry := ⟨rfl, rfl⟩
      cursor := by decide, firstTwo := fun _ => rfl, inBufWf := rfl, outBufWf := wf_append buffer_new_wf _ }, rfl⟩
theorem witness_EmitEnd : std.legal = true ∧ mid.i.Encoding std := ⟨standard_legal, setupI_encoding⟩
/-- The farthest two-byte match, and the longest and farthest of all. -/
theorem witness_EmitMatch :
    std.legal = true ∧ mid.i.Encoding std ∧ flushable 2 0xFF = true ∧ 0xFF < mid.i.window.toNat ∧ flushable 0x204 0x3FF = true ∧
    0x3FF < mid.i.window.toNat ∧
    (0 < 2 ^ std.exLenBits.getD 0 0 ∧ std.lenBase.getD 0 0 + 0 + 0x100 = 2 + 0xFE) ∧
    (0xFC < 2 ^ std.exLenBits.getD 15 0 ∧ std.lenBase.getD 15 0 + 0xFC + 0x100 = 0x204 + 0xFE) :=
  ⟨standard_legal, setupI_encoding, by decide⟩
theorem witness_Flushability : flushable 2 0xFF = true ∧ flushable 2 0x100 = false := by decide
theorem witness_FindRepetitions : 2 ≤ [0x41, 0x41, 0x41, 0x41].length ∧ 4 ≤ [0x41, 0x41, 0x41, 0x41].length := by decide
theorem witness_Evict :
    let i : IUnit := { setupI std .binary .small with window := 2, cursor := 2, inBuf := Buffer.new.append [1, 2, 3] }
    i.inBuf.wf = true ∧ i.cursor ≤ i.inBuf.size ∧ i.window.toNat ≤ i.cursor ∧ ({ i with cursor := 1 } : IUnit).cursor < i.window.toNat := by
  decide
theorem witness_ScanStep :
    let i : IUnit := { setupI std .binary .small with
      inBuf := Buffer.new.append [1, 2, 3], cursor := 2, handledFirstTwoBytes := true }
    std.legal = true ∧ i.Encoding std ∧ i.handledFirstTwoBytes = true ∧ i.cursor < i.inBuf.size :=
  ⟨standard_legal, { setupI_encoding with
      cursor := by decide
      firstTwo := fun e => Bool.noConfusion e
      inBufWf := wf_append buffer_new_wf _ }, rfl, by decide⟩
/-- R236's step with three bytes, the least it emits, and with two. -/
theorem witness_ScanStep_firstTwoBytes :
    let three : IUnit := { setupI std .binary .small with inBuf := Buffer.new.append [1, 2, 3] }
    let two : IUnit := { setupI std .binary .small with inBuf := Buffer.new.append [1, 2] }
    std.legal = true ∧
    (three.Encoding std ∧ three.handledFirstTwoBytes = false ∧ three.inBuf.size = 3) ∧
    (two.Encoding std ∧ two.handledFirstTwoBytes = false ∧ two.inBuf.size = 2) :=
  ⟨standard_legal,
    ⟨{ setupI_encoding with cursor := by decide, inBufWf := wf_append buffer_new_wf _ }, rfl, by decide⟩,
    ⟨{ setupI_encoding with cursor := by decide, inBufWf := wf_append buffer_new_wf _ }, rfl, by decide⟩⟩
theorem witness_RESET : State.reset.cfg.tables.legal = true := standard_legal
theorem witness_DenseTables :
    std.legal = true ∧ std.complete = true ∧ 0x05 % 2 ^ std.lenBits.getD 0 0 = std.lenCode.getD 0 0 ∧
    0x03 % 2 ^ std.distBits.getD 0 0 = std.distCode.getD 0 0 := ⟨standard_legal, standard_complete, by decide⟩
theorem witness_ResetInv : Config.standard.legal = true := standard_config_legal
theorem witness_IResetIllegal :
    State.reset.cfg.tables.legal = true ∧ ((0x02 : Byte) ≠ 0 ∧ (0x02 : Byte) ≠ 1) ∧ (((0x00 : Byte) = 0 ∨ (0x00 : Byte) = 1) ∧ (0x07 : Byte) ≠ 4 ∧
      (0x07 : Byte) ≠ 5 ∧ (0x07 : Byte) ≠ 6) :=
  ⟨standard_legal, by decide +kernel⟩
/-- A unit with a step to take and one with none. -/
theorem witness_IPushResult_scan :
    let i : IUnit := { setupI std .binary .small with inBuf := Buffer.new.append [1, 2, 3] }
    std.legal = true ∧ i.Encoding std ∧ enabled false i = true ∧ enabled true i = false :=
  ⟨standard_legal, { setupI_encoding with cursor := by decide, inBufWf := wf_append buffer_new_wf _ }, by decide⟩
theorem witness_IPushResult : mid.cfg.legal = true ∧ mid.i.Inv mid.cfg.tables ∧ mid.i.istate = .accumulating :=
  ⟨standard_config_legal, setupI_inv, rfl⟩
theorem witness_IFinishResult : mid.cfg.legal = true ∧ mid.i.Inv mid.cfg.tables ∧ mid.i.istate = .accumulating :=
  ⟨standard_config_legal, setupI_inv, rfl⟩
theorem witness_IFinalized :
    let s : State := { mid with i := { setupI std .binary .small with istate := .finalized } }
    s.i.live = true ∧ s.i.istate = .finalized ∧ s.cfg.tables.legal = true := ⟨rfl, rfl, standard_legal⟩
theorem witness_UnitFrame :
    (∃ t, exec .xFinish State.reset = .next t) ∧ forImplode .xFinish = false ∧
    (∃ t, exec (.iReset 0 4) State.reset = .next t ∧ t.i.live = true) ∧ forImplode (.iReset 0 4) = true :=
  ⟨⟨_, rfl⟩, rfl, exists_of_nextWith (p := fun t : State => t.i.live) (by decide +kernel), rfl⟩

theorem witness_ExplodeChunks :
    Config.standard.legal = true ∧ [[0x00, 0x04], [], [0x01, 0xFF]].flatten = [0x00, 0x04, 0x01, 0xFF] :=
  ⟨standard_config_legal, rfl⟩
/-- A short stream, and R221's stream, which completes with its last byte. -/
theorem witness_ShortStream :
    Config.standard.legal = true ∧ [[0x02], [0x07, 0x00]].flatten.length < 4 ∧
    explodeSummary std T20 = (T20out, .done, .none) ∧ (explodeSummary std T20.dropLast).2.1 ≠ .done ∧
    [0x00, 0x04, 0x82, 0x24, 0x25] <+: T20 :=
  ⟨standard_config_legal, by decide +kernel⟩
theorem witness_HeaderRejection :
    Config.standard.legal = true ∧ [[0x02, 0x04], [0x00, 0x00]].flatten = 0x02 :: 0x04 :: 0x00 :: 0x00 :: [] :=
  ⟨standard_config_legal, rfl⟩
theorem witness_RoundTrip : ({ Config.standard with lookaheadHold := false } : Config).legal = true :=
  standard_config_legal
theorem witness_ImplodeChunks : Config.standard.legal = true ∧ Config.standard.lookaheadHold = true :=
  ⟨standard_config_legal, rfl⟩

end Sys2Proof.Machine.Tests
end

section
/-! SUPPORT. The instructions by their shape: what makes the proofs about `exec` and the decoder a case split over seven families
(30_encoding.md rules R105 to R109). -/

namespace Sys2Proof

/-! ### Shapes -/

/-- The instruction of a shape: what `Instr.shape` forgets nothing of (`instr_shape`). -/
def Shape.instr : Shape → Instr
  | .header m d seed => .header m d seed
  | .literalBinary b => .litB b
  | .literalAscii b => asciiLiteral b
  | .length c e => lengthPart c e
  | .endOfStream => .endToken
  | .distance p low => distancePart p low
  | .command c => (decodeCommand c).toOption.getD .endToken

/-- The part numbers of a shape are those of the format (R107, R108). -/
def Shape.bounded : Shape → Bool
  | .length c _ => decide (c < 16)
  | .distance p _ => decide (p < 64)
  | _ => true

theorem shape_bounded (i : Instr) : i.shape.bounded = true := by cases i <;> rfl

theorem lengthPart_toNat (c : Nat) (e : BitVec 8) : lengthPart c e.toNat = lengthParts.getD c (fun _ => .len0) e := by
  rw [lengthPart, BitVec.ofNat_toNat, BitVec.setWidth_eq]

theorem instr_shape (i : Instr) : i.shape.instr = i := by
  cases i with
  | len1 e => exact lengthPart_toNat 1 e
  | len2 e => exact lengthPart_toNat 2 e
  | len3 e => exact lengthPart_toNat 3 e
  | len4 e => exact lengthPart_toNat 4 e
  | len5 e => exact lengthPart_toNat 5 e
  | len6 e => exact lengthPart_toNat 6 e
  | len7 e => exact lengthPart_toNat 7 e
  | len8 e => exact lengthPart_toNat 8 e
  | len9 e => exact lengthPart_toNat 9 e
  | len10 e => exact lengthPart_toNat 10 e
  | len11 e => exact lengthPart_toNat 11 e
  | len12 e => exact lengthPart_toNat 12 e
  | len13 e => exact lengthPart_toNat 13 e
  | len14 e => exact lengthPart_toNat 14 e
  | len15 e => exact lengthPart_toNat 15 e
  | _ => rfl

theorem shape_asciiLiteral (b : Byte) : (asciiLiteral b).shape = .literalAscii b := by
  revert b; decide +kernel

theorem shape_distancePart {p : Nat} (hp : p < 64) (low : BitVec 6) : (distancePart p low).shape = .distance p low := by
  interval_cases p <;> rfl

theorem shape_lengthPart {c e : Nat} (hc : c < 16) (he : e < 2 ^ 8) (h0 : c = 0 → e = 0) :
    (lengthPart c e).shape = .length c e := by
  have hn : (BitVec.ofNat 8 e).toNat = e := Nat.mod_eq_of_lt he
  rcases Nat.eq_zero_or_pos c with rfl | hpos
  · rw [h0 rfl]; rfl
  · rw [lengthPart]
    conv_rhs => rw [← hn]
    generalize BitVec.ofNat 8 e = v
    interval_cases c <;> rfl

namespace Machine

/-- `exec` by the shape of the instruction; a command is executed as itself. -/
def execShape (i : Instr) (s : State) : Answer State :=
  match i.shape with
  | .header m d seed => parseHeader m d seed s
  | .literalBinary b => executeToken b.toNat s
  | .literalAscii b => executeToken b.toNat s
  | .length c e => executeToken (lengthToken s.cfg.tables c e) s
  | .endOfStream => executeToken endTokenNumber s
  | .distance p low => executeDistance p low s
  | .command _ => exec i s

theorem exec_eq_execShape (i : Instr) (s : State) : exec i s = execShape i s := by
  cases i <;> rfl

end Machine
end Sys2Proof
end

section
/-! SUPPORT. The bit reader in closed form (42_explode_decode.md rules R181 to R183): its bits as one number, what a read and a
`wasteBits` do to it, and that more bytes waiting change nothing. -/

namespace Sys2Proof

namespace BitReader

theorem wf_iff (r : BitReader) :
    r.wf = true ↔ r.extraBits.toNat ≤ 7 ∧ r.bitBuffer.toNat < 2 ^ (8 + r.extraBits.toNat) := by
  simp [BitReader.wf]

/-- The reader with more bytes waiting behind those it has. -/
def extend (r : BitReader) (more : List Byte) : BitReader := { r with input := r.input ++ more }

/-- `r'` is `r` moved on by `n` bits. -/
structure Reads (r : BitReader) (n : Nat) (r' : BitReader) : Prop where
  wf : r'.wf = true
  bits : r'.bits = r.bits / 2 ^ n
  avail : r'.avail + n = r.avail
  input : r'.input <:+ r.input

theorem Reads.trans {r s t : BitReader} {m n : Nat} (h : r.Reads m s) (h' : s.Reads n t) : r.Reads (m + n) t where
  wf := h'.wf
  bits := by rw [h'.bits, h.bits, Nat.div_div_eq_div_mul, Nat.pow_add]
  avail := by have := h.avail; have := h'.avail; omega
  input := h'.input.trans h.input

/-- `peek` reads the next bits (R182). -/
theorem peek_eq {n : Nat} (r : BitReader) (hn : n ≤ 8) : r.peek n = r.bits % 2 ^ n := by
  have h : 2 ^ n ∣ bytesToNat r.input <<< (8 + r.extraBits.toNat) := by
    rw [Nat.shiftLeft_eq]
    exact (Nat.pow_dvd_pow 2 (by omega)).mul_left _
  obtain ⟨q, hq⟩ := h
  rw [BitReader.peek, BitReader.bits, hq, Nat.add_mul_mod_self_left]

theorem wasteBits_eq_none_iff {r : BitReader} {n : Nat} :
    r.wasteBits n = none ↔ r.extraBits.toNat < n ∧ r.input = [] := by
  unfold BitReader.wasteBits
  split
  · simp; omega
  · split <;> simp_all

/-- Eight bits laid above the `8 + e` bits of a buffer, after `n > e` of them are dropped: the arithmetic of R183's load. -/
theorem shift_or_byte {b v e n : Nat} (hb : b < 2 ^ (8 + e)) (he : e < n) :
    (b >>> e ||| v <<< 8) >>> (n - e) = (b + v * 2 ^ (8 + e)) / 2 ^ n := by
  have h1 : b / 2 ^ e < 2 ^ 8 := Nat.div_lt_of_lt_mul (by rw [← Nat.pow_add, Nat.add_comm]; exact hb)
  have h2 : b >>> e ||| v <<< 8 = (b + v * 2 ^ (8 + e)) / 2 ^ e := by
    rw [Nat.shiftRight_eq_div_pow, Nat.lor_comm, ← Nat.shiftLeft_add_eq_or_of_lt h1, Nat.shiftLeft_eq, Nat.pow_add,
      ← Nat.mul_assoc, Nat.add_mul_div_right _ _ (Nat.two_pow_pos e), Nat.add_comm]
  rw [h2, Nat.shiftRight_eq_div_pow, Nat.div_div_eq_div_mul, ← Nat.pow_add]
  congr 2
  omega

/-- `wasteBits(n)` moves the reader on by `n` bits (R183). -/
theorem reads_of_wasteBits {r r' : BitReader} {n : Nat} (hr : r.wf = true) (hn : n ≤ 8)
    (h : r.wasteBits n = some r') : r.Reads n r' := by
  obtain ⟨he, hb⟩ := (wf_iff r).1 hr
  obtain ⟨bb, eb, input⟩ := r
  simp only at he hb
  unfold BitReader.wasteBits at h
  split at h
  · rename_i hle
    cases h
    have hx : (BitVec.ofNat 4 (eb.toNat - n)).toNat = eb.toNat - n := by
      rw [BitVec.toNat_ofNat]; omega
    have hd : bb.toNat / 2 ^ n < 2 ^ (8 + (eb.toNat - n)) := by
      apply Nat.div_lt_of_lt_mul
      rw [← Nat.pow_add]
      simp only at hle
      rwa [show n + (8 + (eb.toNat - n)) = 8 + eb.toNat by omega]
    simp only at hle
    refine ⟨(wf_iff _).2 ⟨by simp only [hx]; omega, ?_⟩, ?_, ?_, List.suffix_refl _⟩
    · simp only [hx, BitVec.toNat_ushiftRight, Nat.shiftRight_eq_div_pow]
      exact hd
    · simp only [BitReader.bits, hx, BitVec.toNat_ushiftRight, Nat.shiftRight_eq_div_pow, Nat.shiftLeft_eq]
      rw [show 8 + eb.toNat = (8 + (eb.toNat - n)) + n by omega, Nat.pow_add _ _ n, ← Nat.mul_assoc,
        Nat.add_mul_div_right _ _ (Nat.two_pow_pos n)]
    · simp only [BitReader.avail, hx]; omega
  · rename_i hlt
    simp only at hlt
    cases input with
    | nil => cases h
    | cons byte rest =>
      cases h
      have hx : (BitVec.ofNat 4 (eb.toNat + 8 - n)).toNat = eb.toNat + 8 - n := by
        rw [BitVec.toNat_ofNat]; omega
      have hbyte := byte.isLt
      have hs : ((bb >>> eb.toNat ||| byte.setWidth 16 <<< 8) >>> (n - eb.toNat)).toNat =
          (bb.toNat + byte.toNat * 2 ^ (8 + eb.toNat)) / 2 ^ n := by
        rw [← shift_or_byte hb (by omega)]
        simp only [BitVec.toNat_ushiftRight, BitVec.toNat_or, BitVec.toNat_shiftLeft, BitVec.toNat_setWidth]
        rw [Nat.mod_eq_of_lt (by omega : byte.toNat < 2 ^ 16), Nat.mod_eq_of_lt]
        rw [Nat.shiftLeft_eq]; omega
      have hd : (bb.toNat + byte.toNat * 2 ^ (8 + eb.toNat)) / 2 ^ n < 2 ^ (8 + (eb.toNat + 8 - n)) := by
        apply Nat.div_lt_of_lt_mul
        rw [← Nat.pow_add, show n + (8 + (eb.toNat + 8 - n)) = 8 + (8 + eb.toNat) by omega, Nat.pow_add 2 8 (8 + eb.toNat)]
        have := Nat.mul_le_mul_right (2 ^ (8 + eb.toNat)) (Nat.le_of_lt_succ hbyte)
        omega
      refine ⟨(wf_iff _).2 ⟨by simp only [hx]; omega, by simp only [hx, hs]; exact hd⟩, ?_, ?_, List.suffix_cons _ _⟩
      · simp only [BitReader.bits, hx, hs, bytesToNat, Nat.shiftLeft_eq]
        rw [show 8 + (eb.toNat + 8 - n) = 16 + eb.toNat - n by omega,
          ← Nat.add_mul_div_right _ _ (Nat.two_pow_pos n), Nat.mul_assoc, ← Nat.pow_add,
          show 16 + eb.toNat - n + n = 8 + (8 + eb.toNat) by omega, Nat.pow_add 2 8]
        congr 1
        ring
      · simp only [BitReader.avail, hx, List.length_cons]; omega

theorem avail_le_of_wasteBits_eq_none {r : BitReader} {n : Nat} (h : r.wasteBits n = none) : r.avail < n + 8 := by
  obtain ⟨he, hi⟩ := wasteBits_eq_none_iff.1 h
  rw [BitReader.avail, hi, List.length_nil]
  omega

theorem eight_le_avail (r : BitReader) : 8 ≤ r.avail := by unfold BitReader.avail; omega

theorem extend_nil (r : BitReader) : r.extend [] = r := by simp [extend]

theorem extend_extend (r : BitReader) (s t : List Byte) : (r.extend s).extend t = r.extend (s ++ t) := by
  simp [extend]

theorem peek_extend (r : BitReader) (more : List Byte) (n : Nat) : (r.extend more).peek n = r.peek n := rfl

theorem wasteBits_extend {r r' : BitReader} {n : Nat} (more : List Byte) (h : r.wasteBits n = some r') :
    (r.extend more).wasteBits n = some (r'.extend more) := by
  obtain ⟨bb, eb, input⟩ := r
  unfold BitReader.wasteBits extend at *
  split at h
  · rename_i hle
    cases h
    exact if_pos hle
  · rename_i hlt
    rw [if_neg hlt]
    cases input with
    | nil => cases h
    | cons byte rest => cases h; rfl

end BitReader

/-! ### Sequencing -/

/-- `wasteBits(n)` signals NeedMoreInput when fewer than 8 bits would be left (R183). -/
theorem wasteThen_of_lt {r : BitReader} {n : Nat} (h : r.avail < n + 8) (hr : r.wf = true) (hn : n ≤ 8)
    (k : BitReader → Decoded) : wasteThen r n k = .needMoreInput r := by
  unfold wasteThen
  split
  · rfl
  · rename_i r' e
    have h1 := (BitReader.reads_of_wasteBits hr hn e).avail
    have h2 := r'.eight_le_avail
    omega

theorem wasteThen_of_le {r : BitReader} {n : Nat} (hr : r.wf = true) (hn : n ≤ 8) (h : n + 8 ≤ r.avail)
    (k : BitReader → Decoded) : ∃ r', r.Reads n r' ∧ wasteThen r n k = k r' := by
  unfold wasteThen
  split
  · rename_i e
    exact absurd (BitReader.avail_le_of_wasteBits_eq_none e) (by omega)
  · rename_i r' e
    exact ⟨r', BitReader.reads_of_wasteBits hr hn e, rfl⟩

end Sys2Proof
end

section
/-! SUPPORT. The dense decode tables (41_code_tables.md rules R160 to R166) and what legal Static Code Tables guarantee (R119):
every index begins with exactly one code. -/

namespace Sys2Proof

/-! ### The dense tables -/

theorem length_populateFrom {α : Type} (start w : Nat) (v : α) (p : Nat) (table : List α) :
    (populateFrom start w v p table).length = table.length := by
  induction table generalizing p with
  | nil => rfl
  | cons old rest ih => simp [populateFrom, ih]

theorem getElem?_populateFrom {α : Type} (start w : Nat) (v : α) (p : Nat) (table : List α) (x : Nat) :
    (populateFrom start w v p table)[x]? =
      table[x]?.map fun old => if start ≤ p + x ∧ (p + x - start) % 2 ^ w = 0 then v else old := by
  induction table generalizing p x with
  | nil => rfl
  | cons old rest ih =>
    cases x with
    | zero => rfl
    | succ x =>
      simp only [populateFrom, List.getElem?_cons_succ, ih]
      rw [show p + 1 + x = p + (x + 1) by omega]

/-- A slot is in a code's stride pattern exactly if the slot's index begins with the code (R160). -/
theorem stride_iff {start w x : Nat} (h : start < 2 ^ w) : (start ≤ x ∧ (x - start) % 2 ^ w = 0) ↔ x % 2 ^ w = start := by
  constructor
  · rintro ⟨hle, hm⟩
    obtain ⟨q, hq⟩ := Nat.dvd_of_mod_eq_zero hm
    rw [show x = start + 2 ^ w * q by omega, Nat.add_mul_mod_self_left, Nat.mod_eq_of_lt h]
  · intro hx
    have hle : start ≤ x := hx ▸ Nat.mod_le _ _
    refine ⟨hle, ?_⟩
    have hd := Nat.div_add_mod x (2 ^ w)
    rw [hx] at hd
    rw [show x - start = 2 ^ w * (x / 2 ^ w) by omega, Nat.mul_mod_right]

theorem getElem?_populate {α : Type} {start w : Nat} (h : start < 2 ^ w) (v : α) (table : List α) (x : Nat) :
    (populate table start w v)[x]? = table[x]?.map fun old => if x % 2 ^ w = start then v else old := by
  rw [populate, getElem?_populateFrom]
  simp only [Nat.zero_add, stride_iff h]

theorem length_populateCodes (i : Nat) (codes widths table : List Nat) :
    (populateCodes i codes widths table).length = table.length := by
  induction codes generalizing i widths table with
  | nil => rfl
  | cons code codes ih =>
    cases widths with
    | nil => rfl
    | cons w widths => exact (ih _ _ _).trans (length_populateFrom ..)

/-- Every entry is the number of a code, or what stood there. -/
theorem populateCodes_lt {i bound : Nat} {codes widths table : List Nat} (h : i + codes.length ≤ bound)
    (ht : ∀ v ∈ table, v < bound) : ∀ v ∈ populateCodes i codes widths table, v < bound := by
  induction codes generalizing i widths table with
  | nil => exact ht
  | cons code codes ih =>
    cases widths with
    | nil => exact ht
    | cons w widths =>
      rw [List.length_cons] at h
      refine ih (by omega) fun v hv => ?_
      obtain ⟨x, hx⟩ := List.getElem?_of_mem hv
      rw [populate, getElem?_populateFrom, Option.map_eq_some_iff] at hx
      obtain ⟨old, hold, rfl⟩ := hx
      split
      · omega
      · exact ht _ (List.mem_of_getElem? hold)

/-- Two codes that the same bits begin with collide (R119 item 3). -/
theorem collide_of_begin {a b : Nat × Nat} {x : Nat} (ha : x % 2 ^ a.1 = a.2) (hb : x % 2 ^ b.1 = b.2) :
    collide a b = true := by
  rw [collide, beq_iff_eq, ← ha, ← hb, Nat.mod_mod_of_dvd _ (Nat.pow_dvd_pow 2 (Nat.min_le_left ..)),
    Nat.mod_mod_of_dvd _ (Nat.pow_dvd_pow 2 (Nat.min_le_right ..))]

theorem prefixFree_cons (a : Nat × Nat) (rest : List (Nat × Nat)) :
    prefixFree (a :: rest) = true ↔ (∀ b ∈ rest, collide a b = false) ∧ prefixFree rest = true := by
  simp [prefixFree]

/-- In a family where no two codes collide, bits begin with one code at most. -/
theorem eq_of_begin {family : List (Nat × Nat)} (h : prefixFree family = true) {x i j : Nat} {a b : Nat × Nat}
    (hi : family[i]? = some a) (hj : family[j]? = some b) (ha : x % 2 ^ a.1 = a.2) (hb : x % 2 ^ b.1 = b.2) : i = j := by
  induction family generalizing i j with
  | nil => cases hi
  | cons c rest ih =>
    obtain ⟨hc, hrest⟩ := (prefixFree_cons c rest).1 h
    cases i with
    | zero =>
      cases j with
      | zero => rfl
      | succ j =>
        cases hi
        exact absurd (collide_of_begin ha hb) (by rw [hc b (List.mem_of_getElem? hj)]; decide)
    | succ i =>
      cases j with
      | zero =>
        cases hj
        exact absurd (collide_of_begin hb ha) (by rw [hc a (List.mem_of_getElem? hi)]; decide)
      | succ j => rw [ih hrest hi hj]

/-- A slot that no code's stride pattern holds keeps what it had (R160). -/
theorem getElem?_populateCodes_of_none {codes widths : List Nat} {x : Nat}
    (hfit : ∀ c ∈ widths.zip codes, c.2 < 2 ^ c.1) (hx : ∀ c ∈ widths.zip codes, x % 2 ^ c.1 ≠ c.2)
    (i : Nat) (table : List Nat) : (populateCodes i codes widths table)[x]? = table[x]? := by
  induction codes generalizing i widths table with
  | nil => rfl
  | cons code codes ih =>
    cases widths with
    | nil => rfl
    | cons w widths =>
      rw [List.zip_cons_cons] at hfit hx
      rw [populateCodes, ih (fun c hc => hfit c (List.mem_cons_of_mem _ hc)) (fun c hc => hx c (List.mem_cons_of_mem _ hc)),
        getElem?_populate (hfit _ List.mem_cons_self)]
      simp [hx _ List.mem_cons_self]

/-- A slot whose index begins with a code answers that code (R161, R162). -/
theorem getElem?_populateCodes {codes widths : List Nat} (hfit : ∀ c ∈ widths.zip codes, c.2 < 2 ^ c.1)
    (hfree : prefixFree (widths.zip codes) = true) {x c : Nat} {a : Nat × Nat} (hc : (widths.zip codes)[c]? = some a)
    (hx : x % 2 ^ a.1 = a.2) (i : Nat) {table : List Nat} (ht : x < table.length) :
    (populateCodes i codes widths table)[x]? = some (i + c) := by
  induction codes generalizing i c widths table with
  | nil => simp at hc
  | cons code codes ih =>
    cases widths with
    | nil => cases hc
    | cons w widths =>
      rw [List.zip_cons_cons] at hfit hfree hc
      obtain ⟨hhead, hrest⟩ := (prefixFree_cons _ _).1 hfree
      have hfit' : ∀ c ∈ widths.zip codes, c.2 < 2 ^ c.1 := fun c hc => hfit c (List.mem_cons_of_mem _ hc)
      cases c with
      | zero =>
        cases hc
        rw [populateCodes, getElem?_populateCodes_of_none hfit', getElem?_populate (hfit _ List.mem_cons_self),
          List.getElem?_eq_getElem ht]
        · simp [hx]
        · intro b hb hxb
          exact absurd (collide_of_begin hx hxb) (by rw [hhead b hb]; decide)
      | succ c =>
        rw [populateCodes, ih hfit' hrest hc, Nat.add_right_comm, Nat.add_assoc]
        rwa [populate, length_populateFrom]

theorem length_generateDecodeTables (size : Nat) (codes widths : List Nat) :
    (generateDecodeTables size codes widths).length = size := by
  rw [generateDecodeTables, length_populateCodes, List.length_replicate]

/-! ### The widths of legal tables -/

theorem getElem?_zip_getD {l m : List Nat} {i : Nat} (hl : i < l.length) (hm : i < m.length) :
    (l.zip m)[i]? = some (l.getD i 0, m.getD i 0) := by
  rw [List.getElem?_zip_eq_some]
  simp [hl, hm]

theorem codesFit_mem {most : Nat} {family : List (Nat × Nat)} (h : codesFit most family = true) :
    ∀ c ∈ family, 1 ≤ c.1 ∧ c.1 ≤ most ∧ c.2 < 2 ^ c.1 := by
  simpa [codesFit, and_assoc] using h

theorem legal_sized {k : CodeTables} (hk : k.legal = true) :
    k.lenBits.length = 16 ∧ k.lenCode.length = 16 ∧ k.exLenBits.length = 16 ∧ k.lenBase.length = 16 ∧
      k.distBits.length = 64 ∧ k.distCode.length = 64 ∧ k.chBitsAsc.length = 256 ∧ k.chCodeAsc.length = 256 :=
  (sized_iff k).1 ((constrained_iff k).1 ((legal_iff k).1 hk).1).1

theorem lengthFamily_getElem? {k : CodeTables} (hk : k.legal = true) {c : Nat} (hc : c < 16) :
    k.lengthFamily[c]? = some (k.lenBits.getD c 0, k.lenCode.getD c 0) := by
  obtain ⟨h1, h2, -⟩ := legal_sized hk
  exact getElem?_zip_getD (h1 ▸ hc) (h2 ▸ hc)

theorem distanceFamily_getElem? {k : CodeTables} (hk : k.legal = true) {p : Nat} (hp : p < 64) :
    k.distanceFamily[p]? = some (k.distBits.getD p 0, k.distCode.getD p 0) := by
  obtain ⟨-, -, -, -, h1, h2, -⟩ := legal_sized hk
  exact getElem?_zip_getD (h1 ▸ hp) (h2 ▸ hp)

theorem asciiFamily_getElem? {k : CodeTables} (hk : k.legal = true) {b : Nat} (hb : b < 256) :
    k.asciiFamily[b]? = some (k.chBitsAsc.getD b 0, k.chCodeAsc.getD b 0) := by
  obtain ⟨-, -, -, -, -, -, h1, h2⟩ := legal_sized hk
  exact getElem?_zip_getD (h1 ▸ hb) (h2 ▸ hb)

/-- A length code is 1 to 7 bits wide (R119 item 2, R37). -/
theorem legal_lenBits {k : CodeTables} (hk : k.legal = true) {c : Nat} (hc : c < 16) :
    1 ≤ k.lenBits.getD c 0 ∧ k.lenBits.getD c 0 ≤ 7 := by
  obtain ⟨hcon, hw, -⟩ := (legal_iff k).1 hk
  obtain ⟨-, hfit, -⟩ := (constrained_iff k).1 hcon
  obtain ⟨h1, -⟩ := codesFit_mem hfit _ (List.mem_of_getElem? (lengthFamily_getElem? hk hc))
  have hlen : c < k.lenBits.length := (legal_sized hk).1 ▸ hc
  simp only [CodeTables.widthsFit, Bool.and_eq_true, List.all_eq_true, decide_eq_true_eq] at hw
  have := hw.1.1 _ (List.getElem_mem hlen)
  rw [List.getD_eq_getElem _ _ hlen] at h1 ⊢
  omega

/-- A distance-position code is 1 to 8 bits wide (R119 item 2). -/
theorem legal_distBits {k : CodeTables} (hk : k.legal = true) {p : Nat} (hp : p < 64) :
    1 ≤ k.distBits.getD p 0 ∧ k.distBits.getD p 0 ≤ 8 := by
  obtain ⟨-, -, hfit, -⟩ := (constrained_iff k).1 ((legal_iff k).1 hk).1
  obtain ⟨h1, h2, -⟩ := codesFit_mem hfit _ (List.mem_of_getElem? (distanceFamily_getElem? hk hp))
  exact ⟨h1, h2⟩

/-- An Ascii literal's code is 1 to 15 bits wide (R119 item 7, R37). -/
theorem legal_chBitsAsc {k : CodeTables} (hk : k.legal = true) {b : Nat} (hb : b < 256) :
    1 ≤ k.chBitsAsc.getD b 0 ∧ k.chBitsAsc.getD b 0 ≤ 15 := by
  obtain ⟨hcon, hw, -⟩ := (legal_iff k).1 hk
  obtain ⟨-, -, -, hfit, -⟩ := (constrained_iff k).1 hcon
  obtain ⟨h1, -⟩ := codesFit_mem hfit _ (List.mem_of_getElem? (asciiFamily_getElem? hk hb))
  have hlen : b < k.chBitsAsc.length := by obtain ⟨-, -, -, -, -, -, h, -⟩ := legal_sized hk; exact h ▸ hb
  simp only [CodeTables.widthsFit, Bool.and_eq_true, List.all_eq_true, decide_eq_true_eq] at hw
  have := hw.1.2 _ (List.getElem_mem hlen)
  rw [List.getD_eq_getElem _ _ hlen] at h1 ⊢
  omega

theorem tiles_next {base : Nat} {bases widths : List Nat} (hl : bases.length = widths.length)
    (h : tiles base bases widths = true) :
    bases.getD 0 0x206 = base ∧ ∀ c < bases.length, bases.getD (c + 1) 0x206 = bases.getD c 0x206 + 2 ^ widths.getD c 0 := by
  induction bases generalizing base widths with
  | nil =>
    simp only [tiles, beq_iff_eq] at h
    exact ⟨h.symm, fun c hc => absurd hc (Nat.not_lt_zero c)⟩
  | cons b bases ih =>
    cases widths with
    | nil => cases hl
    | cons n widths =>
      simp only [tiles, Bool.and_eq_true, beq_iff_eq] at h
      obtain ⟨rfl, h⟩ := h
      obtain ⟨h0, hs⟩ := ih (Nat.succ.inj hl) h
      refine ⟨rfl, fun c hc => ?_⟩
      cases c with
      | zero => exact h0
      | succ c => exact hs c (Nat.lt_of_succ_lt_succ hc)

/-- The ranges of the length codes follow one another (R119 item 4). -/
theorem legal_lenBase_succ {k : CodeTables} (hk : k.legal = true) {c : Nat} (hc : c < 16) :
    (if c = 15 then 0x206 else k.lenBase.getD (c + 1) 0) = k.lenBase.getD c 0 + 2 ^ k.exLenBits.getD c 0 := by
  obtain ⟨-, -, h1, h2, -⟩ := legal_sized hk
  obtain ⟨-, -, -, -, -, -, -, ht, -⟩ := (constrained_iff k).1 ((legal_iff k).1 hk).1
  have h := (tiles_next (h2.trans h1.symm) ((lengthsTile_iff k).1 ht).1).2 c (h2 ▸ hc)
  rw [List.getD_eq_getElem _ _ (h2 ▸ hc : c < k.lenBase.length)] at h ⊢
  rw [← h]
  split
  · subst c
    rw [List.getD_eq_default _ _ (by omega)]
  · rw [List.getD_eq_getElem _ _ (by omega), List.getD_eq_getElem _ _ (by omega)]

/-- Code `c` starts `j` or more below code `c + j`. -/
theorem legal_lenBase_add_le {k : CodeTables} (hk : k.legal = true) (c j : Nat) (h : c + j < 16) :
    k.lenBase.getD c 0 + j ≤ k.lenBase.getD (c + j) 0 := by
  induction j with
  | zero => exact Nat.le_refl _
  | succ j ih =>
    have hs := legal_lenBase_succ hk (c := c + j) (by omega)
    rw [if_neg (by omega)] at hs
    have := ih (by omega)
    have := Nat.one_le_two_pow (n := k.exLenBits.getD (c + j) 0)
    rw [← Nat.add_assoc c j 1]
    omega

/-- END's code alone has 8 extra bits (R119 items 4 and 5). -/
theorem legal_exLenBits {k : CodeTables} (hk : k.legal = true) {c : Nat} (hc : c < 15) : k.exLenBits.getD c 0 ≤ 7 := by
  have hs := legal_lenBase_succ hk (c := c) (by omega)
  rw [if_neg (by omega)] at hs
  have h1 := legal_lenBase_add_le hk 0 c (by omega)
  have h2 := legal_lenBase_add_le hk (c + 1) (14 - c) (by omega)
  rw [show c + 1 + (14 - c) = 15 by omega, (legal_ends hk).2.1] at h2
  rw [Nat.zero_add] at h1
  by_contra hgt
  have := Nat.pow_le_pow_right (n := 2) (by omega) (show 8 ≤ k.exLenBits.getD c 0 by omega)
  omega

theorem legal_exLenBits_le {k : CodeTables} (hk : k.legal = true) {c : Nat} (hc : c < 16) : k.exLenBits.getD c 0 ≤ 8 := by
  rcases Nat.lt_or_eq_of_le (Nat.le_of_lt_succ hc) with h | rfl
  · have := legal_exLenBits hk h; omega
  · exact Nat.le_of_eq (legal_ends hk).1

/-! ### The dense tables of legal tables -/

theorem dense_lookup {most n x : Nat} {codes widths : List Nat} (hc : codes.length = n) (hn : 0 < n)
    (hx : x < 256) (hfit : codesFit most (widths.zip codes) = true) (hfree : prefixFree (widths.zip codes) = true) :
    ∃ c, c < n ∧ (generateDecodeTables 256 codes widths)[x]? = some c ∧
      ∀ d a, (widths.zip codes)[d]? = some a → x % 2 ^ a.1 = a.2 → d = c := by
  have hlen : x < (generateDecodeTables 256 codes widths).length := by rwa [length_generateDecodeTables]
  refine ⟨_, ?_, List.getElem?_eq_getElem hlen, fun d a hd ha => ?_⟩
  · refine populateCodes_lt (i := 0) (by omega) (fun v hv => ?_) _ (List.getElem_mem hlen)
    rw [List.eq_of_mem_replicate hv]
    exact hn
  · have h := getElem?_populateCodes (fun c hc => (codesFit_mem hfit c hc).2.2) hfree hd ha 0
      (table := List.replicate 256 0) (by rwa [List.length_replicate])
    rw [Nat.zero_add] at h
    exact ((List.getElem?_eq_some_iff.1 h).2).symm

/-- The length table answers a code for every 8 bits, and the one they begin with if there is one (R163). -/
theorem lengthCodesOf_lookup {k : CodeTables} (hk : k.legal = true) {x : Nat} (hx : x < 256) :
    ∃ c, c < 16 ∧ (lengthCodesOf k)[x]? = some c ∧
      ∀ d < 16, x % 2 ^ k.lenBits.getD d 0 = k.lenCode.getD d 0 → d = c := by
  obtain ⟨-, hfit, -, -, hfree, -⟩ := (constrained_iff k).1 ((legal_iff k).1 hk).1
  obtain ⟨c, hc, hl, hu⟩ := dense_lookup (legal_sized hk).2.1 (by decide) hx hfit hfree
  exact ⟨c, hc, lengthCodesOf_eq k ▸ hl, fun d hd hm => hu d _ (lengthFamily_getElem? hk hd) hm⟩

/-- The distance-position table likewise (R163). -/
theorem distPosCodesOf_lookup {k : CodeTables} (hk : k.legal = true) {x : Nat} (hx : x < 256) :
    ∃ p, p < 64 ∧ (distPosCodesOf k)[x]? = some p ∧
      ∀ q < 64, x % 2 ^ k.distBits.getD q 0 = k.distCode.getD q 0 → q = p := by
  obtain ⟨-, -, hfit, -, -, hfree, -⟩ := (constrained_iff k).1 ((legal_iff k).1 hk).1
  obtain ⟨-, -, -, -, -, hsize, -⟩ := legal_sized hk
  obtain ⟨p, hp, hl, hu⟩ := dense_lookup hsize (by decide) hx hfit hfree
  exact ⟨p, hp, distPosCodesOf_eq k ▸ hl, fun q hq hm => hu q _ (distanceFamily_getElem? hk hq) hm⟩

end Sys2Proof
end

section
/-! SUPPORT. The Ascii tables: the walk of R188 to R190 finds the literal whose code the bits begin with (R170). -/

namespace Sys2Proof

/-! ### The walk through the Ascii tables -/

/-- Where R188 to R190 look up the literal whose bits begin `v`: the entry, and the bits wasted before its residual width. -/
def AsciiTables.walk (a : AsciiTables) (v : Nat) : Option Byte × Nat :=
  if v % 256 = 0 then (a.table2EB4.getD (v / 256 % 256) none, 8)
  else if a.table2C34.getD (v % 256) none = some 0xFF then
    if v % 64 ≠ 0 then (a.table2D34.getD (v / 16 % 256) none, 4) else (a.table2E34.getD (v / 64 % 128) none, 6)
  else (a.table2C34.getD (v % 256) none, 0)

theorem finds_iff {k : CodeTables} {a : AsciiTables} {entry : Option Byte} {shift x : Nat} :
    a.finds k entry shift x = true ↔ ∃ b, entry = some b ∧ x % 2 ^ k.chBitsAsc.getD b.toNat 0 = k.chCodeAsc.getD b.toNat 0 ∧
      shift + a.chBitsAsc.getD b.toNat 0 = k.chBitsAsc.getD b.toNat 0 := by
  unfold AsciiTables.finds
  cases entry with
  | none => simp
  | some b => simp

/-- What the walk of legal tables finds, as R170 checks it: `x` are the bits the walk has looked at. -/
theorem walk_finds {k : CodeTables} (hk : k.legal = true) (v : Nat) :
    let a := generateAsciiTables k
    (v % 256 = 0 ∧ (a.walk v).2 = 8 ∧ a.finds k (a.walk v).1 8 (v % 2 ^ 16) = true) ∨
    (v % 64 ≠ 0 ∧ (a.walk v).2 = 4 ∧ a.finds k (a.walk v).1 4 (v % 2 ^ 12) = true) ∨
    (v % 64 = 0 ∧ v % 256 ≠ 0 ∧ (a.walk v).2 = 6 ∧ a.finds k (a.walk v).1 6 (v % 2 ^ 13) = true) ∨
    (v % 256 ≠ 0 ∧ a.table2C34.getD (v % 256) none ≠ some 0xFF ∧ (a.walk v).2 = 0 ∧
      a.finds k (a.walk v).1 0 (v % 2 ^ 8) = true) := by
  have hr := ((legal_iff k).1 hk).2.2
  rw [CodeTables.asciiReady, Bool.and_eq_true] at hr
  replace hr := hr.2
  simp only
  generalize generateAsciiTables k = a at hr ⊢
  rw [AsciiTables.walksRight, List.all_eq_true] at hr
  have hx := hr (v % 256) (List.mem_range.2 (Nat.mod_lt _ (by decide)))
  unfold AsciiTables.walk
  by_cases h0 : v % 256 = 0
  · rw [if_pos h0, List.all_eq_true] at hx
    rw [if_pos h0]
    have := hx (v / 256 % 256) (List.mem_range.2 (Nat.mod_lt _ (by decide)))
    rw [Nat.shiftLeft_eq, show v / 256 % 256 * 2 ^ 8 = v % 2 ^ 16 by omega] at this
    exact .inl ⟨h0, rfl, this⟩
  · rw [if_neg h0] at hx ⊢
    by_cases hs : a.table2C34.getD (v % 256) none = some 0xFF
    · rw [if_pos hs] at hx ⊢
      by_cases h6 : v % 64 ≠ 0
      · rw [if_pos (by rwa [lowbits, show v % 256 % 2 ^ 6 = v % 64 by omega]), List.all_eq_true] at hx
        rw [if_pos h6]
        have := hx (v / 256 % 16) (List.mem_range.2 (Nat.mod_lt _ (by decide)))
        rw [Nat.shiftLeft_eq, Nat.shiftRight_eq_div_pow,
          show v % 256 + v / 256 % 16 * 2 ^ 8 = v % 2 ^ 12 by omega, show v % 2 ^ 12 / 2 ^ 4 = v / 16 % 256 by omega] at this
        exact .inr (.inl ⟨h6, rfl, this⟩)
      · rw [if_neg (by rwa [lowbits, show v % 256 % 2 ^ 6 = v % 64 by omega]), List.all_eq_true] at hx
        rw [if_neg h6]
        have := hx (v / 256 % 32) (List.mem_range.2 (Nat.mod_lt _ (by decide)))
        rw [Nat.shiftLeft_eq, Nat.shiftRight_eq_div_pow,
          show v % 256 + v / 256 % 32 * 2 ^ 8 = v % 2 ^ 13 by omega, show v % 2 ^ 13 / 2 ^ 6 = v / 64 % 128 by omega] at this
        exact .inr (.inr (.inl ⟨by omega, h0, rfl, this⟩))
    · rw [if_neg hs] at hx ⊢
      exact .inr (.inr (.inr ⟨h0, hs, rfl, hx⟩))

/-- A symbol's width past 8 bits is bounded by the level its code leads to (R119 item 7). -/
theorem legal_residual {k : CodeTables} (hk : k.legal = true) (b : Byte) :
    k.chBitsAsc.getD b.toNat 0 ≤ 8 ∨
      (if k.chCodeAsc.getD b.toNat 0 % 2 ^ 8 = 0 then k.chBitsAsc.getD b.toNat 0 ≤ 16
       else if k.chCodeAsc.getD b.toNat 0 % 2 ^ 6 = 0 then k.chBitsAsc.getD b.toNat 0 ≤ 13
       else k.chBitsAsc.getD b.toNat 0 ≤ 12) := by
  obtain ⟨-, -, -, -, -, -, -, -, hres⟩ := (constrained_iff k).1 ((legal_iff k).1 hk).1
  have h := List.all_eq_true.1 hres _ (List.mem_of_getElem? (asciiFamily_getElem? hk b.isLt))
  unfold residualFits at h
  rw [Bool.or_eq_true, decide_eq_true_eq] at h
  refine h.imp id fun h => ?_
  simp only at h ⊢
  split at h <;> rename_i h8
  · rw [if_pos h8]
    have := of_decide_eq_true h
    omega
  · rw [if_neg h8]
    split at h <;> rename_i h6
    · rw [if_pos h6]
      have := of_decide_eq_true h
      omega
    · rw [if_neg h6]
      have := of_decide_eq_true h
      omega

/-- A symbol of more than 8 bits that the first level leads on from has the sentinel there (R166, R170 item 1). -/
theorem legal_sentinel {k : CodeTables} (hk : k.legal = true) (b : Byte) (h8 : 8 < k.chBitsAsc.getD b.toNat 0)
    (h0 : k.chCodeAsc.getD b.toNat 0 % 2 ^ 8 ≠ 0) :
    (generateAsciiTables k).table2C34.getD (k.chCodeAsc.getD b.toNat 0 % 2 ^ 8) none = some 0xFF := by
  have hr := ((legal_iff k).1 hk).2.2
  rw [CodeTables.asciiReady, Bool.and_eq_true, List.all_eq_true] at hr
  have h := hr.1 b.toNat (List.mem_range.2 b.isLt)
  unfold AsciiTables.keepsSymbol at h
  simp only at h
  rw [if_neg (Nat.not_le.2 h8), if_neg h0, Bool.and_eq_true, beq_iff_eq] at h
  exact h.1

/-- The walk finds a symbol whose code the bits begin with, and wastes its whole width (R170 item 4). -/
theorem walk_spec {k : CodeTables} (hk : k.legal = true) (v : Nat) :
    ∃ b, ((generateAsciiTables k).walk v).1 = some b ∧
      ((generateAsciiTables k).walk v).2 + (generateAsciiTables k).chBitsAsc.getD b.toNat 0 = k.chBitsAsc.getD b.toNat 0 ∧
      (generateAsciiTables k).chBitsAsc.getD b.toNat 0 ≤ 8 ∧
      v % 2 ^ k.chBitsAsc.getD b.toNat 0 = k.chCodeAsc.getD b.toNat 0 := by
  -- the code found is within the bits looked at, so the stream begins with it too
  have seen : ∀ {w m c : Nat}, w ≤ m → v % 2 ^ m % 2 ^ w = c → v % 2 ^ w = c := fun hw h => by
    rwa [Nat.mod_mod_of_dvd _ (Nat.pow_dvd_pow 2 hw)] at h
  -- a code of more than 8 bits has the first 8 bits looked at
  have low : ∀ {w m c j : Nat}, j ≤ w → j ≤ m → v % 2 ^ m % 2 ^ w = c → c % 2 ^ j = v % 2 ^ j := fun hw hm h => by
    rw [← h, Nat.mod_mod_of_dvd _ (Nat.pow_dvd_pow 2 hw), Nat.mod_mod_of_dvd _ (Nat.pow_dvd_pow 2 hm)]
  rcases walk_finds hk v with ⟨h0, hs, hf⟩ | ⟨h6, hs, hf⟩ | ⟨h6, h0, hs, hf⟩ | ⟨h0, hne, hs, hf⟩ <;>
    obtain ⟨b, he, hm, hw⟩ := finds_iff.1 hf <;> refine ⟨b, he, by rwa [hs], ?_⟩ <;>
    obtain ⟨-, h15⟩ := legal_chBitsAsc hk b.isLt <;> have hres := legal_residual hk b
  · exact ⟨by omega, seen (by omega) hm⟩
  · rcases le_or_gt (k.chBitsAsc.getD b.toNat 0) 8 with h8 | h8
    · exact ⟨by omega, seen (by omega) hm⟩
    · have l8 := low (j := 8) (by omega) (by decide) hm
      have l6 := low (j := 6) (by omega) (by decide) hm
      rw [if_neg (by omega), if_neg (by omega)] at hres
      exact ⟨by omega, seen (by omega) hm⟩
  · rcases le_or_gt (k.chBitsAsc.getD b.toNat 0) 8 with h8 | h8
    · exact ⟨by omega, seen (by omega) hm⟩
    · have l8 := low (j := 8) (by omega) (by decide) hm
      have l6 := low (j := 6) (by omega) (by decide) hm
      rw [if_neg (by omega), if_pos (by omega)] at hres
      exact ⟨by omega, seen (by omega) hm⟩
  · rcases le_or_gt (k.chBitsAsc.getD b.toNat 0) 8 with h8 | h8
    · exact ⟨by omega, seen h8 hm⟩
    · have l8 := low (j := 8) (by omega) (by decide) hm
      exact absurd (legal_sentinel hk b h8 (by omega)) (by rw [l8]; exact hne)

end Sys2Proof
end

section
/-! SUPPORT. Each decoder in closed form (42_explode_decode.md rules R185 to R193): the instruction it reads, the bits it uses, and
when it signals NeedMoreInput. -/

namespace Sys2Proof

/-! ### What a decoder answers, by the bits there are -/

/-- The bits beyond an instruction's own that its decode asks for: END's takes none (R186, R193). -/
def Instr.slack (i : Instr) : Nat := if i = .endToken then 0 else 8

theorem slack_endToken : Instr.endToken.slack = 0 := rfl

theorem slack_of_ne {i : Instr} (h : i ≠ .endToken) : i.slack = 8 := if_neg h

/-- The answer `d` of a decoder at `r` is the instruction `i` of `n` bits where those and its slack are there, with the
reader moved on by `n` bits, END apart; and NeedMoreInput where they are not (R193). -/
def Decoded.Yields (d : Decoded) (r : BitReader) (n : Nat) (i : Instr) : Prop :=
  (n + i.slack ≤ r.avail → ∃ r', d = .instr i r' ∧ (i ≠ .endToken → r.Reads n r')) ∧
  (r.avail < n + i.slack → ∃ q, d = .needMoreInput q)

theorem yields_instr {r : BitReader} {i : Instr} (hr : r.wf = true) : (Decoded.instr i r).Yields r 0 i := by
  refine ⟨fun _ => ⟨r, rfl, fun _ => ⟨hr, by simp, rfl, List.suffix_refl _⟩⟩, fun h => ?_⟩
  have := r.eight_le_avail
  unfold Instr.slack at h
  split at h <;> omega

/-- `wasteBits(m)` in front of a decoder puts `m` bits in front of what it reads (R180, R183). -/
theorem yields_wasteThen {r : BitReader} {m n : Nat} {i : Instr} {f : BitReader → Decoded} (hr : r.wf = true)
    (hm : m ≤ 8) (hn : i = .endToken → 8 ≤ n) (h : ∀ r', r.Reads m r' → (f r').Yields r' n i) :
    (wasteThen r m f).Yields r (m + n) i := by
  rcases Nat.lt_or_ge r.avail (m + 8) with hlt | hge
  · rw [wasteThen_of_lt hlt hr hm]
    refine ⟨fun hle => ?_, fun _ => ⟨r, rfl⟩⟩
    by_cases he : i = .endToken
    · have := hn he
      omega
    · rw [slack_of_ne he] at hle
      omega
  · obtain ⟨r', hread, hw⟩ := wasteThen_of_le hr hm hge f
    rw [hw]
    obtain ⟨h1, h2⟩ := h r' hread
    have havail := hread.avail
    refine ⟨fun hle => ?_, fun hlt => h2 (by omega)⟩
    obtain ⟨s, hd, hs⟩ := h1 (by omega)
    exact ⟨s, hd, fun he => hread.trans (hs he)⟩

theorem yields_wasteThen_instr {r : BitReader} {m : Nat} {i : Instr} (hr : r.wf = true) (hm : m ≤ 8)
    (hi : i ≠ .endToken) : (wasteThen r m fun r' => .instr i r').Yields r m i :=
  yields_wasteThen (n := 0) hr hm (fun h => absurd h hi) fun _ h => yields_instr h.wf

/-! ### Reading two fields -/

/-- Two fields laid one above the other are read one after the other. -/
theorem mod_two_fields {x u v m n : Nat} (h : x % 2 ^ (m + n) = u + v <<< m) (hu : u < 2 ^ m) :
    x % 2 ^ m = u ∧ x / 2 ^ m % 2 ^ n = v := by
  rw [Nat.pow_add, Nat.shiftLeft_eq] at h
  have hm := Nat.mod_mul_right_mod x (2 ^ m) (2 ^ n)
  have hd := Nat.mod_mul_right_div_self x (2 ^ m) (2 ^ n)
  rw [h] at hm hd
  rw [← hm, ← hd, Nat.add_mul_mod_self_right, Nat.add_mul_div_right _ _ (Nat.two_pow_pos m), Nat.mod_eq_of_lt hu,
    Nat.div_eq_of_lt hu, Nat.zero_add]
  exact ⟨rfl, rfl⟩

/-! ### The instructions the decoder makes -/

theorem shape_lengthInstr {c e : Nat} (hc : c < 16) (he : e < 2 ^ 8) (h0 : c = 0 → e = 0) :
    (lengthInstr c e).shape = if c = 15 ∧ e = 0xFF then .endOfStream else .length c e := by
  unfold lengthInstr
  split
  · rfl
  · exact shape_lengthPart hc he h0

theorem lengthInstr_eq_endToken_iff {c e : Nat} (hc : c < 16) (he : e < 2 ^ 8) (h0 : c = 0 → e = 0) :
    lengthInstr c e = .endToken ↔ c = 15 ∧ e = 0xFF := by
  constructor
  · intro h
    have hs := shape_lengthInstr hc he h0
    rw [h] at hs
    by_contra hne
    rw [if_neg hne] at hs
    cases hs
  · exact fun h => if_pos h

/-- A length part and END have the pattern of their code and extra bits (R107, R109). -/
theorem encode_lengthInstr (k : CodeTables) (sp : Space) {c e : Nat} (hc : c < 16) (he : e < 2 ^ 8)
    (h0 : c = 0 → e = 0) : encode k sp (lengthInstr c e) = lengthCode k c e := by
  unfold encode
  rw [shape_lengthInstr hc he h0]
  by_cases h : c = 15 ∧ e = 0xFF
  · rw [if_pos h, h.1, h.2]
  · rw [if_neg h]

theorem encode_litB (k : CodeTables) (sp : Space) (b : Byte) : encode k sp (.litB b) = ⟨9, b.toNat <<< 1⟩ := rfl

theorem encode_asciiLiteral (k : CodeTables) (sp : Space) (b : Byte) :
    encode k sp (asciiLiteral b) = ⟨1 + k.chBitsAsc.getD b.toNat 0, k.chCodeAsc.getD b.toNat 0 <<< 1⟩ := by
  unfold encode
  rw [shape_asciiLiteral]

theorem encode_distancePart (k : CodeTables) (n : Nat) (d : DictionarySize) (mask : BitVec 6) {p : Nat} (hp : p < 64)
    (low : BitVec 6) : encode k (.distance n d mask) (distancePart p low) =
      ⟨k.distBits.getD p 0 + lowWidth n d, k.distCode.getD p 0 + low.toNat <<< k.distBits.getD p 0⟩ := by
  unfold encode
  rw [shape_distancePart hp]

theorem wellFormed_litB (k : CodeTables) (b : Byte) : wellFormed k (.token .binary) (.litB b) = true := rfl

theorem wellFormed_asciiLiteral (k : CodeTables) (b : Byte) : wellFormed k (.token .ascii) (asciiLiteral b) = true := by
  unfold wellFormed
  rw [shape_asciiLiteral]

theorem wellFormed_lengthInstr {k : CodeTables} (hk : k.legal = true) (mode : CompressionMode) {c e : Nat} (hc : c < 16)
    (he : e < 2 ^ k.exLenBits.getD c 0) : wellFormed k (.token mode) (lengthInstr c e) = true := by
  have hx := Nat.pow_le_pow_right (n := 2) (by decide) (legal_exLenBits_le hk hc)
  have h0 : c = 0 → e = 0 := by
    rintro rfl
    rw [(legal_ends hk).2.2.2] at he
    omega
  unfold wellFormed
  rw [shape_lengthInstr hc (by omega) h0]
  by_cases h : c = 15 ∧ e = 0xFF
  · rw [if_pos h]
    cases mode <;> rfl
  · rw [if_neg h]
    cases mode <;> simp only [Bool.and_eq_true, decide_eq_true_eq, Bool.not_eq_true', Bool.and_eq_false_iff,
      beq_eq_false_iff_ne] <;> exact ⟨he, by omega⟩

theorem bits_le (d : DictionarySize) : 4 ≤ d.bits ∧ d.bits ≤ 6 := by cases d <;> decide

theorem lowWidth_le (n : Nat) (d : DictionarySize) : 2 ≤ lowWidth n d ∧ lowWidth n d ≤ 6 := by
  have := bits_le d
  unfold lowWidth
  split <;> omega

theorem wellFormed_distancePart (k : CodeTables) (n : Nat) (d : DictionarySize) {p low : Nat} (hp : p < 64)
    (hl : low < 2 ^ lowWidth n d) :
    wellFormed k (.distance n d d.distMask) (distancePart p (BitVec.ofNat 6 low)) = true := by
  unfold wellFormed
  rw [shape_distancePart hp]
  have h6 := Nat.pow_le_pow_right (n := 2) (by decide) (lowWidth_le n d).2
  simp only [BitVec.toNat_ofNat, Nat.mod_eq_of_lt (show low < 2 ^ 6 by omega), hl, decide_true, Bool.and_self]

/-! ### The decoders, one by one -/

/-- The length branch, after the flag (R185, R186). -/
theorem decodeLength_yields {k : CodeTables} {t : DecodeTables} (hk : k.legal = true)
    (ht : t.lengthCodes = lengthCodesOf k) (bits : Nat) :
    ∃ c e, c < 16 ∧ e < 2 ^ k.exLenBits.getD c 0 ∧
      (∀ r : BitReader, r.wf = true → r.bits = bits →
        (decodeLength k t r).Yields r (k.lenBits.getD c 0 + k.exLenBits.getD c 0) (lengthInstr c e)) ∧
      e = bits / 2 ^ k.lenBits.getD c 0 % 2 ^ k.exLenBits.getD c 0 ∧
      ∀ d < 16, bits % 2 ^ k.lenBits.getD d 0 = k.lenCode.getD d 0 → d = c := by
  obtain ⟨c, hc, hl, hu⟩ := lengthCodesOf_lookup hk (x := bits % 2 ^ 8) (Nat.mod_lt _ (by decide))
  have hw := legal_lenBits hk hc
  have hx := legal_exLenBits_le hk hc
  have hx8 := Nat.pow_le_pow_right (n := 2) (by decide) hx
  have he : bits / 2 ^ k.lenBits.getD c 0 % 2 ^ k.exLenBits.getD c 0 < 2 ^ k.exLenBits.getD c 0 :=
    Nat.mod_lt _ (Nat.two_pow_pos _)
  refine ⟨c, _, hc, he, ?_, rfl, fun d hd hm => hu d hd ?_⟩
  · rintro r hr rfl
    unfold decodeLength
    rw [BitReader.peek_eq r (by decide), ht, hl]
    have h0 : c = 0 → r.bits / 2 ^ k.lenBits.getD c 0 % 2 ^ k.exLenBits.getD c 0 = 0 := by
      rintro rfl
      rw [(legal_ends hk).2.2.2]
      exact Nat.mod_one _
    have hend := lengthInstr_eq_endToken_iff hc (by omega) h0
    refine yields_wasteThen hr (by omega) (fun h => ?_) fun s hs => ?_
    · rw [(hend.1 h).1, (legal_ends hk).1]
    rw [← hs.bits] at hend he ⊢
    simp only
    by_cases hn : k.exLenBits.getD c 0 = 0
    · rw [if_pos hn, hn, Nat.pow_zero, Nat.mod_one]
      exact yields_instr hs.wf
    rw [if_neg hn, BitReader.peek_eq s hx]
    split
    · rename_i s' hs'
      have hread := BitReader.reads_of_wasteBits hs.wf hx hs'
      refine ⟨fun _ => ⟨s', rfl, fun _ => hread⟩, fun hlt => ?_⟩
      have h1 := hread.avail
      have h2 := s'.eight_le_avail
      unfold Instr.slack at hlt
      split at hlt <;> omega
    · rename_i hs'
      have hlt := BitReader.avail_le_of_wasteBits_eq_none hs'
      by_cases hi : c = 15 ∧ s.bits % 2 ^ k.exLenBits.getD c 0 = 0xFF
      · rw [if_pos (by omega), hend.2 hi]
        refine ⟨fun _ => ⟨s, rfl, fun h => absurd rfl h⟩, fun hlt' => ?_⟩
        rw [slack_endToken] at hlt'
        have := s.eight_le_avail
        omega
      · have hne : lengthInstr c (s.bits % 2 ^ k.exLenBits.getD c 0) ≠ .endToken := fun h => hi (hend.1 h)
        have hsum : c + s.bits % 2 ^ k.exLenBits.getD c 0 ≠ 0x10E := by
          intro hsum
          rcases Nat.lt_or_eq_of_le (Nat.le_of_lt_succ hc) with h15 | h15
          · have := Nat.pow_le_pow_right (n := 2) (by decide) (legal_exLenBits hk h15)
            omega
          · omega
        rw [if_neg hsum]
        refine ⟨fun hle => ?_, fun _ => ⟨s, rfl⟩⟩
        rw [slack_of_ne hne] at hle
        omega
  · rwa [Nat.mod_mod_of_dvd _ (Nat.pow_dvd_pow 2 (by have := legal_lenBits hk hd; omega))]

theorem litB_ne_endToken (b : Byte) : Instr.litB b ≠ .endToken := fun h => Instr.noConfusion h

theorem asciiLiteral_ne_endToken (b : Byte) : asciiLiteral b ≠ .endToken := fun h => by
  have := shape_asciiLiteral b
  rw [h] at this
  cases this

theorem distancePart_ne_endToken {p : Nat} (hp : p < 64) (low : BitVec 6) : distancePart p low ≠ .endToken := fun h => by
  have := shape_distancePart hp low
  rw [h] at this
  cases this

/-- A Binary literal, after the flag (R187). -/
theorem decodeLiteralBinary_yields {r : BitReader} (hr : r.wf = true) :
    (decodeLiteralBinary r).Yields r 8 (.litB (BitVec.ofNat 8 (r.bits % 2 ^ 8))) := by
  unfold decodeLiteralBinary
  rw [BitReader.peek_eq r (by decide)]
  exact yields_wasteThen_instr hr (by decide) (litB_ne_endToken _)

/-- An Ascii literal, after the flag: the one whose code the bits begin with (R188 to R191). -/
theorem decodeLiteralAscii_yields {k : CodeTables} (hk : k.legal = true) (bits : Nat) :
    ∃ b : Byte, (∀ r : BitReader, r.wf = true → r.bits = bits →
        (decodeLiteralAscii (asciiTablesOf k) r).Yields r (k.chBitsAsc.getD b.toNat 0) (asciiLiteral b)) ∧
      bits % 2 ^ k.chBitsAsc.getD b.toNat 0 = k.chCodeAsc.getD b.toNat 0 := by
  obtain ⟨b, hb, hsum, h8, hcode⟩ := walk_spec hk bits
  refine ⟨b, ?_, hcode⟩
  rintro r hr rfl
  rw [asciiTablesOf_eq]
  generalize generateAsciiTables k = a at hb hsum h8
  have hfinish : ∀ s : BitReader, s.wf = true →
      (finishLiteralAscii a s b).Yields s (a.chBitsAsc.getD b.toNat 0) (asciiLiteral b) :=
    fun s hs => yields_wasteThen_instr hs h8 (asciiLiteral_ne_endToken b)
  rw [← hsum]
  unfold decodeLiteralAscii
  unfold AsciiTables.walk at hb ⊢
  simp only [BitReader.peek_eq r (show 8 ≤ 8 by decide), BitReader.peek_eq r (show 6 ≤ 8 by decide)]
  by_cases h0 : r.bits % 256 = 0
  · rw [if_pos h0] at hb ⊢
    rw [if_pos (by exact h0)]
    refine yields_wasteThen hr (by decide) (fun h => absurd h (asciiLiteral_ne_endToken b)) fun s hs => ?_
    rw [BitReader.peek_eq s (by decide), hs.bits]
    simp only at hb
    rw [show (2 : Nat) ^ 8 = 256 from rfl, hb]
    exact hfinish s hs.wf
  · rw [if_neg h0] at hb ⊢
    rw [if_neg (by exact h0), show (2 : Nat) ^ 8 = 256 from rfl]
    by_cases hs : a.table2C34.getD (r.bits % 256) none = some 0xFF
    · rw [if_pos hs] at hb ⊢
      rw [hs]
      simp only [lookupThen, if_true]
      by_cases h6 : r.bits % 64 ≠ 0
      · rw [if_pos h6] at hb ⊢
        rw [if_pos (by exact h6)]
        refine yields_wasteThen hr (by decide) (fun h => absurd h (asciiLiteral_ne_endToken b)) fun s hs => ?_
        rw [BitReader.peek_eq s (by decide), hs.bits]
        simp only at hb
        rw [show (2 : Nat) ^ 8 = 256 from rfl, show (2 : Nat) ^ 4 = 16 from rfl, hb]
        exact hfinish s hs.wf
      · rw [if_neg h6] at hb ⊢
        rw [if_neg (by exact h6)]
        refine yields_wasteThen hr (by decide) (fun h => absurd h (asciiLiteral_ne_endToken b)) fun s hs => ?_
        rw [BitReader.peek_eq s (by decide), hs.bits]
        simp only at hb
        rw [show (2 : Nat) ^ 7 = 128 from rfl, show (2 : Nat) ^ 6 = 64 from rfl, hb]
        exact hfinish s hs.wf
    · rw [if_neg hs] at hb ⊢
      simp only at hb
      rw [hb] at hs ⊢
      simp only [lookupThen]
      rw [if_neg fun h => hs (congrArg some h), Nat.zero_add]
      exact hfinish r hr

/-- The low distance bits: `D & distMask` is the next `dictBits` bits (R192, R24). -/
theorem lowBits_eq (r : BitReader) (d : DictionarySize) :
    (r.bitBuffer &&& d.distMask.setWidth 16).setWidth 6 = BitVec.ofNat 6 (r.bits % 2 ^ d.bits) := by
  have hb := bits_le d
  have hp := BitReader.peek_eq r (n := d.bits) (by omega)
  rw [BitReader.peek, lowbits] at hp
  rw [← hp]
  apply BitVec.eq_of_toNat_eq
  have hmask : (d.distMask.setWidth 16).toNat = 2 ^ d.bits - 1 := by cases d <;> rfl
  rw [BitVec.toNat_setWidth, BitVec.toNat_and, hmask, Nat.and_two_pow_sub_one_eq_mod, BitVec.toNat_ofNat]

/-- The distance part (R192). -/
theorem decodeDistancePart_yields {k : CodeTables} {t : DecodeTables} {r : BitReader} (n : Nat) (d : DictionarySize)
    (hk : k.legal = true) (ht : t.distPosCodes = distPosCodesOf k) (hr : r.wf = true) :
    ∃ p low, p < 64 ∧ low < 2 ^ lowWidth n d ∧
      (decodeDistancePart k t n d d.distMask r).Yields r (k.distBits.getD p 0 + lowWidth n d)
        (distancePart p (BitVec.ofNat 6 low)) ∧
      low = r.bits / 2 ^ k.distBits.getD p 0 % 2 ^ lowWidth n d ∧
      ∀ q < 64, r.bits % 2 ^ k.distBits.getD q 0 = k.distCode.getD q 0 → q = p := by
  obtain ⟨p, hp, hl, hu⟩ := distPosCodesOf_lookup hk (x := r.bits % 2 ^ 8) (Nat.mod_lt _ (by decide))
  have hw := legal_distBits hk hp
  refine ⟨p, _, hp, Nat.mod_lt _ (Nat.two_pow_pos _), ?_, rfl, fun q hq hm => hu q hq ?_⟩
  · unfold decodeDistancePart
    rw [BitReader.peek_eq r (by decide), ht, hl]
    refine yields_wasteThen hr hw.2 (fun h => absurd h (distancePart_ne_endToken hp _)) fun s hs => ?_
    rw [← hs.bits]
    unfold lowWidth
    by_cases h2 : n = 2
    · rw [if_pos h2, if_pos h2, BitReader.peek_eq s (by decide)]
      exact yields_wasteThen_instr hs.wf (by decide) (distancePart_ne_endToken hp _)
    · rw [if_neg h2, if_neg h2]
      simp only [lowBits_eq]
      have := bits_le d
      exact yields_wasteThen_instr hs.wf (by omega) (distancePart_ne_endToken hp _)
  · rwa [Nat.mod_mod_of_dvd _ (Nat.pow_dvd_pow 2 (by have := legal_distBits hk hq; omega))]

end Sys2Proof
end

section
/-! SUPPORT. The decoder in a code space of the stream (R180 to R194): what bits begin with which instruction, and that more input
does not change what was decoded. -/

namespace Sys2Proof

/-! ### The instructions of a space -/

theorem exLenBits_pow_le {k : CodeTables} (hk : k.legal = true) {c e : Nat} (hc : c < 16)
    (he : e < 2 ^ k.exLenBits.getD c 0) : e < 2 ^ 8 ∧ (c = 0 → e = 0) := by
  have := Nat.pow_le_pow_right (n := 2) (by decide) (legal_exLenBits_le hk hc)
  refine ⟨by omega, ?_⟩
  rintro rfl
  rw [(legal_ends hk).2.2.2] at he
  omega

/-- What may stand at a token boundary (R105, R106, R107, R109). -/
theorem token_cases {k : CodeTables} (hk : k.legal = true) {mode : CompressionMode} {j : Instr}
    (h : wellFormed k (.token mode) j = true) :
    (mode = .binary ∧ ∃ b, j = .litB b) ∨ (mode = .ascii ∧ ∃ b, j = asciiLiteral b) ∨
      ∃ c e, c < 16 ∧ e < 2 ^ k.exLenBits.getD c 0 ∧ j = lengthInstr c e := by
  have hj := instr_shape j
  have hb := shape_bounded j
  unfold wellFormed at h
  generalize j.shape = sh at h hj hb
  cases sh with
  | literalBinary b =>
    cases mode with
    | binary => exact .inl ⟨rfl, b, hj.symm⟩
    | ascii => cases h
  | literalAscii b =>
    cases mode with
    | binary => cases h
    | ascii => exact .inr (.inl ⟨rfl, b, hj.symm⟩)
  | length c e =>
    have h' : (decide (e < 2 ^ k.exLenBits.getD c 0) && !(c == 15 && e == 0xFF)) = true := by
      cases mode <;> exact h
    simp only [Bool.and_eq_true, decide_eq_true_eq, Bool.not_eq_true', Bool.and_eq_false_iff, beq_eq_false_iff_ne] at h'
    refine .inr (.inr ⟨c, e, of_decide_eq_true hb, h'.1, ?_⟩)
    rw [← hj, lengthInstr, if_neg (by omega)]
    rfl
  | endOfStream => exact .inr (.inr ⟨15, 0xFF, by decide, by rw [(legal_ends hk).1]; decide, hj.symm⟩)
  | header m d seed => cases mode <;> cases h
  | distance p low => cases mode <;> cases h
  | command c => cases mode <;> cases h

/-- What may stand after a length part (R108). -/
theorem distance_cases {k : CodeTables} {n : Nat} {d : DictionarySize} {mask : BitVec 6} {j : Instr}
    (h : wellFormed k (.distance n d mask) j = true) :
    mask = d.distMask ∧ ∃ p low, p < 64 ∧ low < 2 ^ lowWidth n d ∧ j = distancePart p (BitVec.ofNat 6 low) := by
  have hj := instr_shape j
  have hb := shape_bounded j
  unfold wellFormed at h
  generalize j.shape = sh at h hj hb
  cases sh with
  | distance p low =>
    simp only [Bool.and_eq_true, decide_eq_true_eq] at h
    refine ⟨h.1, p, low.toNat, of_decide_eq_true hb, h.2, ?_⟩
    rw [← hj, BitVec.ofNat_toNat, BitVec.setWidth_eq]
    rfl
  | _ => cases h

/-! ### The decoder in a code space of the stream -/

theorem lengthCode_width (k : CodeTables) (c e : Nat) :
    (lengthCode k c e).width = 1 + (k.lenBits.getD c 0 + k.exLenBits.getD c 0) := Nat.add_assoc ..

theorem lengthCode_bits_odd (k : CodeTables) (c e : Nat) : (lengthCode k c e).bits % 2 = 1 := by
  simp only [lengthCode, Nat.shiftLeft_eq, Nat.pow_add, Nat.pow_one]
  rw [Nat.mul_comm 2, ← Nat.mul_assoc]
  omega

/-- The parity of the low bits of a number is its own. -/
theorem odd_of_mod {x w v : Nat} (hw : 1 ≤ w) (h : x % 2 ^ w = v) : x % 2 = v % 2 := by
  rw [← h]
  exact (Nat.mod_mod_of_dvd x (Nat.pow_dvd_pow 2 hw)).symm

/-- Bits that begin with the pattern of a length part or END hold its code and then its extra bits (R107). -/
theorem fields_of_lengthCode {k : CodeTables} (hk : k.legal = true) {c e x : Nat}
    (h : x % 2 ^ (lengthCode k c e).width = (lengthCode k c e).bits) :
    x / 2 % 2 ^ k.lenBits.getD c 0 = k.lenCode.getD c 0 ∧
      x / 2 / 2 ^ k.lenBits.getD c 0 % 2 ^ k.exLenBits.getD c 0 = e := by
  obtain ⟨hlow, he⟩ := mod_two_fields h (two_fields_fit (u := 1) (w := 1) Nat.one_lt_two (legal_code_lt hk c).1)
  obtain ⟨-, hc⟩ := mod_two_fields hlow Nat.one_lt_two
  refine ⟨hc, ?_⟩
  rwa [Nat.div_div_eq_div_mul, ← Nat.pow_succ', Nat.succ_eq_one_add]

/-- `i` is the one well-formed instruction that the bits at `r` begin with, as far as there are bits: the decoder reads it
there once the bits it asks for have come, and until then it signals NeedMoreInput (R193). -/
def DecodesAs (k : CodeTables) (t : DecodeTables) (sp : Space) (r : BitReader) (i : Instr) : Prop :=
  wellFormed k sp i = true ∧ (decode k t sp r).Yields r (encode k sp i).width i ∧
    ∀ j, wellFormed k sp j = true → r.bits % 2 ^ (encode k sp j).width = (encode k sp j).bits → j = i

section
variable {k : CodeTables} {t : DecodeTables} {r : BitReader}

/-- Where the flag is 1 a length part or END follows (R185). -/
theorem decode_token_length (mode : CompressionMode) (h : r.bits % 2 = 1) :
    decode k t (.token mode) r = wasteThen r 1 (decodeLength k t) := by
  unfold decode decodeToken
  rw [BitReader.peek_eq r (by decide), Nat.pow_one]
  simp only [h, if_true]

theorem decode_token_binary (h : ¬r.bits % 2 = 1) :
    decode k t (.token .binary) r = wasteThen r 1 decodeLiteralBinary := by
  unfold decode decodeToken
  rw [BitReader.peek_eq r (by decide), Nat.pow_one]
  simp only [h, if_false]

theorem decode_token_ascii {a : AsciiTables} (ha : t.ascii = some a) (h : ¬r.bits % 2 = 1) :
    decode k t (.token .ascii) r = wasteThen r 1 (decodeLiteralAscii a) := by
  unfold decode decodeToken
  rw [BitReader.peek_eq r (by decide), Nat.pow_one]
  simp only [h, if_false, ha]
  rfl

/-- Bits that begin with a length part or END have the flag 1 (R107). -/
theorem flag_of_lengthInstr (hk : k.legal = true) {mode : CompressionMode} {c e : Nat} (hc : c < 16)
    (he : e < 2 ^ k.exLenBits.getD c 0) (h : r.bits % 2 ^ (encode k (.token mode) (lengthInstr c e)).width =
      (encode k (.token mode) (lengthInstr c e)).bits) : r.bits % 2 = 1 := by
  obtain ⟨he8, h0⟩ := exLenBits_pow_le hk hc he
  rw [encode_lengthInstr k _ hc he8 h0] at h
  have := odd_of_mod (by rw [lengthCode_width]; omega) h
  rwa [lengthCode_bits_odd] at this

theorem decodesAs_distance (hk : k.legal = true) (ht : t.distPosCodes = distPosCodesOf k) (n : Nat) (d : DictionarySize)
    (hr : r.wf = true) : ∃ i, DecodesAs k t (.distance n d d.distMask) r i := by
  obtain ⟨p, low, hp, hl, hy, hlow, hu⟩ := decodeDistancePart_yields n d hk ht hr
  refine ⟨_, wellFormed_distancePart k n d hp hl, ?_, fun j hj hm => ?_⟩
  · rwa [encode_distancePart k n d _ hp]
  · obtain ⟨-, q, low', hq, hl', rfl⟩ := distance_cases hj
    have h6 := Nat.pow_le_pow_right (n := 2) (by decide) (lowWidth_le n d).2
    rw [encode_distancePart k n d _ hq, BitVec.toNat_ofNat, Nat.mod_eq_of_lt (by omega : low' < 2 ^ 6)] at hm
    obtain ⟨h1, h2⟩ := mod_two_fields hm (legal_code_lt hk q).2.1
    obtain rfl := hu q hq h1
    rw [hlow, h2]

theorem decodesAs_length (hk : k.legal = true) (ht : t.lengthCodes = lengthCodesOf k) (mode : CompressionMode)
    (hr : r.wf = true) (hflag : r.bits % 2 = 1) : ∃ i, DecodesAs k t (.token mode) r i := by
  obtain ⟨c, e, hc, he, hy, hx, hu⟩ := decodeLength_yields (t := t) hk ht (r.bits / 2)
  obtain ⟨he8, h0⟩ := exLenBits_pow_le hk hc he
  refine ⟨lengthInstr c e, wellFormed_lengthInstr hk mode hc he, ?_, fun j hj hm => ?_⟩
  · rw [encode_lengthInstr k _ hc he8 h0, lengthCode_width, decode_token_length mode hflag]
    refine yields_wasteThen hr (by decide) (fun h => ?_) fun s hs => hy s hs.wf hs.bits
    rw [((lengthInstr_eq_endToken_iff hc he8 h0).1 h).1, (legal_ends hk).1]
    omega
  · rcases token_cases hk hj with ⟨-, b, rfl⟩ | ⟨-, b, rfl⟩ | ⟨c', e', hc', he', rfl⟩
    · rw [encode_litB] at hm
      have := odd_of_mod (show 1 ≤ 9 by decide) hm
      simp only [Nat.shiftLeft_eq] at this
      omega
    · rw [encode_asciiLiteral] at hm
      have := odd_of_mod (Nat.le_add_right 1 _) hm
      simp only [Nat.shiftLeft_eq] at this
      omega
    · obtain ⟨he8', h0'⟩ := exLenBits_pow_le hk hc' he'
      rw [encode_lengthInstr k _ hc' he8' h0'] at hm
      obtain ⟨h1, h2⟩ := fields_of_lengthCode hk hm
      obtain rfl := hu c' hc' h1
      rw [hx, h2]

theorem decodesAs_binary (hk : k.legal = true) (hr : r.wf = true) (hflag : ¬r.bits % 2 = 1) :
    ∃ i, DecodesAs k t (.token .binary) r i := by
  refine ⟨.litB (BitVec.ofNat 8 (r.bits / 2 % 2 ^ 8)), rfl, ?_, fun j hj hm => ?_⟩
  · rw [decode_token_binary hflag]
    refine yields_wasteThen (n := 8) hr (by decide) (fun h => absurd h (litB_ne_endToken _)) fun s hs => ?_
    have := decodeLiteralBinary_yields hs.wf
    rwa [hs.bits] at this
  · rcases token_cases hk hj with ⟨-, b, rfl⟩ | ⟨hmode, -⟩ | ⟨c', e', hc', he', rfl⟩
    · rw [encode_litB] at hm
      obtain ⟨-, h2⟩ := mod_two_fields (x := r.bits) (m := 1) (n := 8) (u := 0) (by rwa [Nat.zero_add]) (by decide)
      rw [Nat.pow_one] at h2
      rw [h2, BitVec.ofNat_toNat, BitVec.setWidth_eq]
    · cases hmode
    · exact absurd (flag_of_lengthInstr hk hc' he' hm) hflag

theorem decodesAs_ascii (hk : k.legal = true) (ht : t.ascii = some (asciiTablesOf k)) (hr : r.wf = true)
    (hflag : ¬r.bits % 2 = 1) : ∃ i, DecodesAs k t (.token .ascii) r i := by
  obtain ⟨b, hy, hb⟩ := decodeLiteralAscii_yields hk (r.bits / 2)
  refine ⟨asciiLiteral b, wellFormed_asciiLiteral k b, ?_, fun j hj hm => ?_⟩
  · rw [encode_asciiLiteral, decode_token_ascii ht hflag]
    exact yields_wasteThen hr (by decide) (fun h => absurd h (asciiLiteral_ne_endToken _)) fun s hs => hy s hs.wf hs.bits
  · rcases token_cases hk hj with ⟨hmode, -⟩ | ⟨-, b', rfl⟩ | ⟨c', e', hc', he', rfl⟩
    · cases hmode
    · rw [encode_asciiLiteral] at hm
      obtain ⟨-, h2⟩ := mod_two_fields (x := r.bits) (m := 1) (u := 0) (by rwa [Nat.zero_add]) (by decide)
      obtain ⟨-, -, -, -, -, -, hfree, -⟩ := (constrained_iff k).1 ((legal_iff k).1 hk).1
      have := eq_of_begin hfree (asciiFamily_getElem? hk b'.isLt) (asciiFamily_getElem? hk b.isLt) h2 hb
      rw [BitVec.eq_of_toNat_eq this]
    · exact absurd (flag_of_lengthInstr hk hc' he' hm) hflag

/-- Token decoding in closed form (R180 to R193): any bits begin with one instruction, as far as there are bits. -/
theorem decode_yields {sp : Space} (hk : k.legal = true) (hsp : sp.inStream = true) (ht : t.ready k sp = true)
    (hr : r.wf = true) : ∃ i, DecodesAs k t sp r i := by
  simp only [DecodeTables.ready, Bool.and_eq_true, beq_iff_eq, Bool.or_eq_true, bne_iff_ne] at ht
  obtain ⟨⟨hlen, hdist⟩, hascii⟩ := ht
  cases sp with
  | host => cases hsp
  | header => cases hsp
  | distance n d mask =>
    simp only [Space.inStream, Bool.and_eq_true, beq_iff_eq] at hsp
    obtain ⟨-, rfl⟩ := hsp
    exact decodesAs_distance hk hdist n d hr
  | token mode =>
    by_cases hflag : r.bits % 2 = 1
    · exact decodesAs_length hk hlen mode hr hflag
    · cases mode with
      | binary => exact decodesAs_binary hk hr hflag
      | ascii => exact decodesAs_ascii hk (hascii.resolve_left fun h => h rfl) hr hflag

end

/-! ### More input -/

theorem wasteThen_extend {r r' : BitReader} {n : Nat} {f : BitReader → Decoded} {i : Instr} (more : List Byte)
    (h : wasteThen r n f = .instr i r')
    (hf : ∀ s, f s = .instr i r' → f (s.extend more) = .instr i (r'.extend more)) :
    wasteThen (r.extend more) n f = .instr i (r'.extend more) := by
  unfold wasteThen at h ⊢
  split at h
  · cases h
  · rename_i s hs
    rw [BitReader.wasteBits_extend more hs]
    exact hf s h

theorem lookupThen_eq_instr {α : Type} {entry : Option α} {f : α → Decoded} {i : Instr} {r : BitReader} :
    lookupThen entry f = .instr i r ↔ ∃ v, entry = some v ∧ f v = .instr i r := by
  cases entry <;> simp [lookupThen]

theorem instr_extend {i j : Instr} {r r' : BitReader} (more : List Byte) (h : Decoded.instr j r = .instr i r') :
    Decoded.instr j (r.extend more) = .instr i (r'.extend more) := by
  cases h
  rfl

theorem finishLiteralAscii_extend {a : AsciiTables} {r r' : BitReader} {v : Byte} {i : Instr} (more : List Byte)
    (h : finishLiteralAscii a r v = .instr i r') :
    finishLiteralAscii a (r.extend more) v = .instr i (r'.extend more) :=
  wasteThen_extend more h fun _ => instr_extend more

theorem decodeLiteralAscii_extend {a : AsciiTables} {r r' : BitReader} {i : Instr} (more : List Byte)
    (h : decodeLiteralAscii a r = .instr i r') :
    decodeLiteralAscii a (r.extend more) = .instr i (r'.extend more) := by
  have hlook : ∀ (entry : Option Byte) (s : BitReader), lookupThen entry (finishLiteralAscii a s) = .instr i r' →
      lookupThen entry (finishLiteralAscii a (s.extend more)) = .instr i (r'.extend more) := fun entry s h => by
    obtain ⟨v, hv, h⟩ := lookupThen_eq_instr.1 h
    exact lookupThen_eq_instr.2 ⟨v, hv, finishLiteralAscii_extend more h⟩
  unfold decodeLiteralAscii at h ⊢
  dsimp only at h ⊢
  by_cases h0 : r.peek 8 = 0
  · rw [if_pos h0] at h
    rw [if_pos (by exact h0)]
    exact wasteThen_extend more h fun s => hlook _ s
  · rw [if_neg h0] at h
    rw [if_neg (by exact h0)]
    obtain ⟨v, hv, h⟩ := lookupThen_eq_instr.1 h
    refine lookupThen_eq_instr.2 ⟨v, hv, ?_⟩
    by_cases hs : v = 0xFF
    · rw [if_pos hs] at h ⊢
      by_cases h6 : r.peek 6 ≠ 0
      · rw [if_pos h6] at h
        rw [if_pos (by exact h6)]
        exact wasteThen_extend more h fun s => hlook _ s
      · rw [if_neg h6] at h
        rw [if_neg (by exact h6)]
        exact wasteThen_extend more h fun s => hlook _ s
    · rw [if_neg hs] at h ⊢
      exact finishLiteralAscii_extend more h

/-- Only END's code and extra bits add up to R186's number. -/
theorem lengthInstr_of_sum {k : CodeTables} (hk : k.legal = true) {c e : Nat} (hn : k.exLenBits.getD c 0 ≠ 0)
    (he : e < 2 ^ k.exLenBits.getD c 0) (h : c + e = 0x10E) : lengthInstr c e = .endToken := by
  refine if_pos ?_
  rcases Nat.lt_trichotomy c 15 with hc | rfl | hc
  · have := Nat.pow_le_pow_right (n := 2) (by decide) (legal_exLenBits hk hc)
    omega
  · omega
  · obtain ⟨-, -, hx, -⟩ := legal_sized hk
    exact absurd (List.getD_eq_default _ _ (by omega : k.exLenBits.length ≤ c)) hn

/-- The branch of the length decoder after its code, with and without more bytes waiting (R186, R194). -/
theorem decodeLength_extend {k : CodeTables} {t : DecodeTables} {r r' : BitReader} {i : Instr} (hk : k.legal = true)
    (more : List Byte) (h : decodeLength k t r = .instr i r') :
    ∃ q, decodeLength k t (r.extend more) = .instr i q ∧ (i ≠ .endToken → q = r'.extend more) := by
  unfold decodeLength at h ⊢
  obtain ⟨c, hc, h⟩ := lookupThen_eq_instr.1 h
  unfold wasteThen at h
  split at h
  · cases h
  rename_i s hs
  rw [BitReader.peek_extend, hc]
  simp only [lookupThen, wasteThen, BitReader.wasteBits_extend more hs] at h ⊢
  by_cases hn : k.exLenBits.getD c 0 = 0
  · rw [if_pos hn] at h ⊢
    cases h
    exact ⟨_, rfl, fun _ => rfl⟩
  rw [if_neg hn] at h ⊢
  split at h
  · rename_i s' hs'
    rw [BitReader.wasteBits_extend more hs']
    cases h
    exact ⟨_, rfl, fun _ => rfl⟩
  · split at h
    · rename_i hsum
      cases h
      have hend := lengthInstr_of_sum hk hn (Nat.mod_lt _ (Nat.two_pow_pos _)) hsum
      split
      · exact ⟨_, congrArg (Decoded.instr · _) hend, fun hne => absurd rfl hne⟩
      · exact ⟨_, if_pos hsum, fun hne => absurd rfl hne⟩
    · cases h

theorem decodeDistancePart_extend {k : CodeTables} {t : DecodeTables} {n : Nat} {d : DictionarySize} {mask : BitVec 6}
    {r r' : BitReader} {i : Instr} (more : List Byte) (h : decodeDistancePart k t n d mask r = .instr i r') :
    decodeDistancePart k t n d mask (r.extend more) = .instr i (r'.extend more) := by
  unfold decodeDistancePart at h ⊢
  obtain ⟨p, hp, h⟩ := lookupThen_eq_instr.1 h
  refine lookupThen_eq_instr.2 ⟨p, hp, wasteThen_extend more h fun s hs => ?_⟩
  by_cases h2 : n = 2
  · rw [if_pos h2] at hs ⊢
    exact wasteThen_extend more hs fun _ => instr_extend more
  · rw [if_neg h2] at hs ⊢
    exact wasteThen_extend more hs fun _ => instr_extend more

theorem decodeToken_extend {k : CodeTables} {t : DecodeTables} {mode : CompressionMode} {r r' : BitReader} {i : Instr}
    (hk : k.legal = true) (more : List Byte) (h : decodeToken k t mode r = .instr i r') :
    ∃ q, decodeToken k t mode (r.extend more) = .instr i q ∧ (i ≠ .endToken → q = r'.extend more) := by
  unfold decodeToken at h ⊢
  rw [BitReader.peek_extend]
  dsimp only at h ⊢
  by_cases hflag : r.peek 1 = 1
  · simp only [hflag, if_true] at h ⊢
    unfold wasteThen at h ⊢
    split at h
    · cases h
    rename_i s hs
    rw [BitReader.wasteBits_extend more hs]
    exact decodeLength_extend hk more h
  · simp only [hflag, if_false] at h ⊢
    refine ⟨_, wasteThen_extend more h fun s hs => ?_, fun _ => rfl⟩
    cases mode with
    | binary => exact wasteThen_extend more hs fun _ => instr_extend more
    | ascii =>
      obtain ⟨a, ha, hs⟩ := lookupThen_eq_instr.1 hs
      exact lookupThen_eq_instr.2 ⟨a, ha, decodeLiteralAscii_extend more hs⟩

/-- What a token part decodes to does not depend on what follows it (R194). -/
theorem decode_extend {k : CodeTables} {t : DecodeTables} {sp : Space} {r r' : BitReader} {i : Instr}
    (hk : k.legal = true) (hsp : sp.inStream = true) (more : List Byte) (h : decode k t sp r = .instr i r') :
    ∃ q, decode k t sp (r.extend more) = .instr i q ∧ (i ≠ .endToken → q = r'.extend more) := by
  cases sp with
  | token mode => exact decodeToken_extend hk more h
  | distance n d mask => exact ⟨_, decodeDistancePart_extend more h, fun _ => rfl⟩
  | header => cases hsp
  | host => cases hsp

end Sys2Proof
end

section
/-! SUPPORT. Whole tokens (43_explode_engine.md rules R206 to R212): what stands at a token boundary, in closed form. -/

namespace Sys2Proof

/-! ### What a decode in the stream leaves -/

theorem encode_width_pos {k : CodeTables} (hk : k.legal = true) {sp : Space} {i : Instr} (hsp : sp.inStream = true)
    (h : wellFormed k sp i = true) : 1 ≤ (encode k sp i).width := by
  cases sp with
  | host => cases hsp
  | header => cases hsp
  | token mode =>
    rcases token_cases hk h with ⟨-, b, rfl⟩ | ⟨-, b, rfl⟩ | ⟨c, e, hc, he, rfl⟩
    · rw [encode_litB]; exact Nat.le_add_left 1 8
    · rw [encode_asciiLiteral]; exact Nat.le_add_right ..
    · obtain ⟨he8, h0⟩ := exLenBits_pow_le hk hc he
      rw [encode_lengthInstr k _ hc he8 h0, lengthCode_width]
      exact Nat.le_add_right ..
  | distance n d mask =>
    obtain ⟨-, p, low, hp, -, rfl⟩ := distance_cases h
    rw [encode_distancePart k n d _ hp]
    have := lowWidth_le n d
    simp only
    omega

/-- The reader `r'` is past some of the bits of `r`. -/
structure BitReader.Passes (r r' : BitReader) : Prop where
  wf : r'.wf = true
  avail : r'.avail < r.avail
  input : r'.input <:+ r.input

theorem BitReader.Passes.trans {r s t : BitReader} (h : r.Passes s) (h' : s.Passes t) : r.Passes t :=
  ⟨h'.wf, h'.avail.trans h.avail, h'.input.trans h.input⟩

/-- What a token part that decodes is, and where it leaves the reader (R206). -/
theorem decode_reads {k : CodeTables} {t : DecodeTables} {sp : Space} {r r' : BitReader} {i : Instr} (hk : k.legal = true)
    (hsp : sp.inStream = true) (ht : t.ready k sp = true) (hr : r.wf = true) (h : decode k t sp r = .instr i r') :
    wellFormed k sp i = true ∧ (i ≠ .endToken → r.Passes r') := by
  obtain ⟨j, hj, ⟨h1, h2⟩, -⟩ := decode_yields hk hsp ht hr
  rcases Nat.lt_or_ge r.avail ((encode k sp j).width + j.slack) with hlt | hge
  · obtain ⟨q, hq⟩ := h2 hlt
    rw [h] at hq
    cases hq
  · obtain ⟨s, hs, hreads⟩ := h1 hge
    rw [h] at hs
    cases hs
    refine ⟨hj, fun hne => ?_⟩
    have hr' := hreads hne
    have := hr'.avail
    have := encode_width_pos hk hsp hj
    exact ⟨hr'.wf, by omega, hr'.input⟩

/-- No bits lead the decoder to a table entry that is not filled (R116, R170). -/
theorem decode_ne_unfilledEntry {k : CodeTables} {t : DecodeTables} {sp : Space} {r : BitReader} (hk : k.legal = true)
    (hsp : sp.inStream = true) (ht : t.ready k sp = true) (hr : r.wf = true) : decode k t sp r ≠ .unfilledEntry := by
  obtain ⟨j, -, ⟨h1, h2⟩, -⟩ := decode_yields hk hsp ht hr
  intro h
  rcases Nat.lt_or_ge r.avail ((encode k sp j).width + j.slack) with hlt | hge
  · obtain ⟨q, hq⟩ := h2 hlt
    rw [h] at hq
    cases hq
  · obtain ⟨s, hs, -⟩ := h1 hge
    rw [h] at hs
    cases hs

/-- Where the next bits are the encoding of a well-formed token part, and the bits it asks for are there, the decoder
reads it (R105 to R109, R193). -/
theorem decode_encode {k : CodeTables} {t : DecodeTables} {sp : Space} {i : Instr} {r : BitReader} (hk : k.legal = true)
    (hsp : sp.inStream = true) (ht : t.ready k sp = true) (hi : wellFormed k sp i = true) (hr : r.wf = true)
    (hbits : r.bits % 2 ^ (encode k sp i).width = (encode k sp i).bits)
    (havail : (encode k sp i).width + i.slack ≤ r.avail) :
    ∃ r', decode k t sp r = .instr i r' ∧ (i ≠ .endToken → r.Reads (encode k sp i).width r') := by
  obtain ⟨j, -, ⟨h1, -⟩, hu⟩ := decode_yields hk hsp ht hr
  obtain rfl := hu i hi hbits
  exact h1 havail

namespace Machine

/-- A length part that is not END has a token number below END's (R109, R110). -/
theorem lengthToken_bounds {k : CodeTables} (hk : k.legal = true) {c e : Nat} (hc : c < 16)
    (he : e < 2 ^ k.exLenBits.getD c 0) (hne : ¬(c = 15 ∧ e = 0xFF)) :
    0x100 ≤ lengthToken k c e ∧ lengthToken k c e < endTokenNumber := by
  have hs := legal_lenBase_succ hk hc
  unfold lengthToken endTokenNumber
  obtain ⟨hx, hb, -⟩ := legal_ends hk
  rcases Nat.lt_or_eq_of_le (Nat.le_of_lt_succ hc) with h15 | rfl
  · rw [if_neg (by omega)] at hs
    have h2 := legal_lenBase_add_le hk (c + 1) (14 - c) (by omega)
    rw [show c + 1 + (14 - c) = 15 by omega, hb] at h2
    omega
  · rw [hx] at he
    omega

/-- The distance part that follows a length part stands in a space of the stream (R111). -/
theorem distance_inStream {k : CodeTables} (hk : k.legal = true) {c e : Nat} (hc : c < 16)
    (he : e < 2 ^ k.exLenBits.getD c 0) (hne : ¬(c = 15 ∧ e = 0xFF)) (d : DictionarySize) :
    (Space.distance (repeatLengthOf (lengthToken k c e)) d d.distMask).inStream = true := by
  obtain ⟨h1, h2⟩ := lengthToken_bounds hk hc he hne
  have h3 : 2 ≤ repeatLengthOf (lengthToken k c e) := by unfold repeatLengthOf; omega
  have h4 : repeatLengthOf (lengthToken k c e) ≤ 0x206 := by
    unfold repeatLengthOf
    have : lengthToken k c e < 0x305 := h2
    omega
  rw [Space.inStream, decide_eq_true h3, decide_eq_true h4, beq_self_eq_true]
  rfl

/-- What a well-formed token is executed as (R206). -/
theorem token_shape {k : CodeTables} (hk : k.legal = true) {mode : CompressionMode} {i : Instr}
    (h : wellFormed k (.token mode) i = true) :
    (∃ b, i.shape = .literalBinary b ∨ i.shape = .literalAscii b) ∨ i = .endToken ∨
      ∃ c e, i.shape = .length c e ∧ c < 16 ∧ e < 2 ^ k.exLenBits.getD c 0 ∧ ¬(c = 15 ∧ e = 0xFF) := by
  rcases token_cases hk h with ⟨-, b, rfl⟩ | ⟨-, b, rfl⟩ | ⟨c, e, hc, he, rfl⟩
  · exact .inl ⟨b, .inl rfl⟩
  · exact .inl ⟨b, .inr (shape_asciiLiteral b)⟩
  · obtain ⟨he8, h0⟩ := exLenBits_pow_le hk hc he
    refine .inr ?_
    by_cases hend : c = 15 ∧ e = 0xFF
    · exact .inl (if_pos hend)
    · refine .inr ⟨c, e, ?_, hc, he, hend⟩
      rw [shape_lengthInstr hc he8 h0, if_neg hend]

theorem ne_endToken_of_shape {i : Instr} (h : i.shape ≠ .endOfStream) : i ≠ .endToken := fun he => h (he ▸ rfl)

/-! ### Whole tokens (R206, R218) -/

/-- What stands at a token boundary of a stream that is all there. -/
inductive NextToken where
  /-- the stream lacks the rest of the token -/
  | starved
  | byte (b : Byte) (rest : BitReader)
  /-- a COPY of `n` bytes at distance `d` -/
  | copy (n d : Nat) (rest : BitReader)
  | stop

/-- The token at the reader, a COPY with both its parts. -/
def nextToken (k : CodeTables) (t : DecodeTables) (mode : CompressionMode) (dict : DictionarySize) (r : BitReader) :
    NextToken :=
  match decode k t (.token mode) r with
  | .instr token r =>
    match token.shape with
    | .literalBinary b => .byte b r
    | .literalAscii b => .byte b r
    | .length c e =>
      let n := repeatLengthOf (lengthToken k c e)
      match decode k t (.distance n dict dict.distMask) r with
      | .instr part r =>
        match part.shape with
        | .distance p low => .copy n (trueDistance n dict p low.toNat) r
        | _ => .starved
      | _ => .starved
    | .endOfStream => .stop
    | _ => .starved
  | _ => .starved

/-- The bytes a COPY of `n` bytes at distance `d` appends to the history (R211). -/
def copied (out : List Byte) (n d : Nat) : List Byte :=
  (List.range n).map fun j => out.getD (out.length - d + j % d) 0

/-- One round of `explodeTokens`. -/
theorem explodeTokens_succ (k : CodeTables) (t : DecodeTables) (mode : CompressionMode) (dict : DictionarySize)
    (fuel : Nat) (r : BitReader) (out : List Byte) :
    explodeTokens k t mode dict (fuel + 1) r out =
      match nextToken k t mode dict r with
      | .starved => (out, .error, .aborted)
      | .byte b r' => explodeTokens k t mode dict fuel r' (out ++ [b])
      | .copy n d r' =>
        if out.length < d then (out, .error, .distanceBeyondHistory)
        else explodeTokens k t mode dict fuel r' (out ++ copied out n d)
      | .stop => (out, .done, .none) := by
  rw [explodeTokens]
  unfold nextToken
  cases decode k t (.token mode) r with
  | needMoreInput q => rfl
  | unfilledEntry => rfl
  | instr i s =>
    dsimp only
    cases i.shape with
    | length c e =>
      dsimp only
      cases decode k t (.distance (repeatLengthOf (lengthToken k c e)) dict dict.distMask) s with
      | needMoreInput q => rfl
      | unfilledEntry => rfl
      | instr part s' =>
        dsimp only
        cases part.shape <;> rfl
    | _ => rfl

theorem ready_token {k : CodeTables} {t : DecodeTables} {mode : CompressionMode} (h : t.ready k (.token mode) = true)
    (n : Nat) (d : DictionarySize) (mask : BitVec 6) : t.ready k (.distance n d mask) = true := by
  simp only [DecodeTables.ready, Bool.and_eq_true, beq_iff_eq, Bool.or_eq_true, bne_iff_ne] at h ⊢
  exact ⟨h.1, .inl (by simp)⟩

section
variable {k : CodeTables} {t : DecodeTables} {mode : CompressionMode} {dict : DictionarySize}

theorem nextToken_of_byte {r r' : BitReader} {i : Instr} {b : Byte} (h : decode k t (.token mode) r = .instr i r')
    (hs : i.shape = .literalBinary b ∨ i.shape = .literalAscii b) : nextToken k t mode dict r = .byte b r' := by
  unfold nextToken
  rcases hs with hs | hs <;> simp only [h, hs]

theorem nextToken_of_end {r r' : BitReader} (h : decode k t (.token mode) r = .instr .endToken r') :
    nextToken k t mode dict r = .stop := by
  unfold nextToken
  simp only [h]
  rfl

theorem nextToken_of_needMoreInput {r q : BitReader} (h : decode k t (.token mode) r = .needMoreInput q) :
    nextToken k t mode dict r = .starved := by
  unfold nextToken
  simp only [h]

theorem nextToken_of_copy {r r₁ r' : BitReader} {i part : Instr} {c e p : Nat} {low : BitVec 6}
    (h : decode k t (.token mode) r = .instr i r₁) (hs : i.shape = .length c e)
    (hd : decode k t (.distance (repeatLengthOf (lengthToken k c e)) dict dict.distMask) r₁ = .instr part r')
    (hp : part.shape = .distance p low) :
    nextToken k t mode dict r = .copy (repeatLengthOf (lengthToken k c e))
      (trueDistance (repeatLengthOf (lengthToken k c e)) dict p low.toNat) r' := by
  unfold nextToken
  simp only [h, hs, hd, hp]

theorem nextToken_of_length {r r₁ q : BitReader} {i : Instr} {c e : Nat}
    (h : decode k t (.token mode) r = .instr i r₁) (hs : i.shape = .length c e)
    (hd : decode k t (.distance (repeatLengthOf (lengthToken k c e)) dict dict.distMask) r₁ = .needMoreInput q) :
    nextToken k t mode dict r = .starved := by
  unfold nextToken
  simp only [h, hs, hd]

/-- The ways the decode of a whole token goes (R206 to R212), with what each leaves of the reader. -/
theorem nextToken_cases (hk : k.legal = true) (ht : t.ready k (.token mode) = true) {r : BitReader} (hr : r.wf = true) :
    (∃ q, decode k t (.token mode) r = .needMoreInput q ∧ nextToken k t mode dict r = .starved) ∨
    (∃ r', decode k t (.token mode) r = .instr .endToken r' ∧ nextToken k t mode dict r = .stop) ∨
    (∃ i b r', decode k t (.token mode) r = .instr i r' ∧ (i.shape = .literalBinary b ∨ i.shape = .literalAscii b) ∧
      r.Passes r' ∧ nextToken k t mode dict r = .byte b r') ∨
    ∃ i c e r₁, decode k t (.token mode) r = .instr i r₁ ∧ i.shape = .length c e ∧ c < 16 ∧
      e < 2 ^ k.exLenBits.getD c 0 ∧ ¬(c = 15 ∧ e = 0xFF) ∧ r.Passes r₁ ∧
      ((∃ q, decode k t (.distance (repeatLengthOf (lengthToken k c e)) dict dict.distMask) r₁ = .needMoreInput q ∧
          nextToken k t mode dict r = .starved) ∨
       ∃ p low r', decode k t (.distance (repeatLengthOf (lengthToken k c e)) dict dict.distMask) r₁ =
            .instr (distancePart p (BitVec.ofNat 6 low)) r' ∧ p < 64 ∧
          low < 2 ^ lowWidth (repeatLengthOf (lengthToken k c e)) dict ∧ r₁.Passes r' ∧
          nextToken k t mode dict r = .copy (repeatLengthOf (lengthToken k c e))
            (trueDistance (repeatLengthOf (lengthToken k c e)) dict p low) r') := by
  cases h : decode k t (.token mode) r with
  | unfilledEntry => exact absurd h (decode_ne_unfilledEntry hk rfl ht hr)
  | needMoreInput q => exact .inl ⟨q, rfl, nextToken_of_needMoreInput h⟩
  | instr i r₁ =>
    refine .inr ?_
    obtain ⟨hwf, hpass⟩ := decode_reads hk rfl ht hr h
    rcases token_shape hk hwf with ⟨b, hs⟩ | rfl | ⟨c, e, hs, hc, he, hne⟩
    · refine .inr (.inl ⟨i, b, r₁, rfl, hs, hpass (ne_endToken_of_shape ?_), nextToken_of_byte h hs⟩)
      rcases hs with hs | hs <;> rw [hs] <;> exact fun h => Shape.noConfusion h
    · exact .inl ⟨r₁, rfl, nextToken_of_end h⟩
    · have hp₁ := hpass (ne_endToken_of_shape (by rw [hs]; exact fun h => Shape.noConfusion h))
      refine .inr (.inr ⟨i, c, e, r₁, rfl, hs, hc, he, hne, hp₁, ?_⟩)
      have hsp := distance_inStream hk hc he hne dict
      have htd := ready_token ht (repeatLengthOf (lengthToken k c e)) dict dict.distMask
      cases hd : decode k t (.distance (repeatLengthOf (lengthToken k c e)) dict dict.distMask) r₁ with
      | unfilledEntry => exact absurd hd (decode_ne_unfilledEntry hk hsp htd hp₁.wf)
      | needMoreInput q => exact .inl ⟨q, rfl, nextToken_of_length h hs hd⟩
      | instr part r' =>
        obtain ⟨hwf', hpass'⟩ := decode_reads hk hsp htd hp₁.wf hd
        obtain ⟨-, p, low, hp, hl, rfl⟩ := distance_cases hwf'
        refine .inr ⟨p, low, r', rfl, hp, hl, hpass' (distancePart_ne_endToken hp _), ?_⟩
        have h6 := Nat.pow_le_pow_right (n := 2) (by decide) (lowWidth_le (repeatLengthOf (lengthToken k c e)) dict).2
        have := nextToken_of_copy h hs hd (shape_distancePart hp _)
        rwa [BitVec.toNat_ofNat, Nat.mod_eq_of_lt (show low < 2 ^ 6 by omega)] at this

/-- The same token, with more bytes waiting. -/
def NextToken.extend (more : List Byte) : NextToken → NextToken
  | .starved => .starved
  | .byte b r => .byte b (r.extend more)
  | .copy n d r => .copy n d (r.extend more)
  | .stop => .stop

/-- A token that is all there does not depend on what follows it (R194, R219). -/
theorem nextToken_extend (hk : k.legal = true) (ht : t.ready k (.token mode) = true) {r : BitReader} (hr : r.wf = true)
    (more : List Byte) (h : nextToken k t mode dict r ≠ .starved) :
    nextToken k t mode dict (r.extend more) = (nextToken k t mode dict r).extend more := by
  rcases nextToken_cases (dict := dict) hk ht hr with ⟨q, -, hn⟩ | ⟨r', hd, hn⟩ | ⟨i, b, r', hd, hs, -, hn⟩ |
    ⟨i, c, e, r₁, hd, hs, hc, he, hne, -, ⟨q, -, hn⟩ | ⟨p, low, r', hd', hp, hl, -, hn⟩⟩
  · exact absurd hn h
  · obtain ⟨q, hq, -⟩ := decode_extend hk rfl more hd
    rw [hn, nextToken_of_end hq]
    rfl
  · obtain ⟨q, hq, he⟩ := decode_extend hk rfl more hd
    obtain rfl := he (ne_endToken_of_shape (by rcases hs with hs | hs <;> rw [hs] <;> exact fun h => Shape.noConfusion h))
    rw [hn, nextToken_of_byte hq hs]
    rfl
  · exact absurd hn h
  · obtain ⟨q, hq, he'⟩ := decode_extend hk rfl more hd
    obtain rfl := he' (ne_endToken_of_shape (by rw [hs]; exact fun h => Shape.noConfusion h))
    obtain ⟨q, hq', he'⟩ := decode_extend hk (distance_inStream hk hc he hne dict) more hd'
    obtain rfl := he' (distancePart_ne_endToken hp _)
    have h6 := Nat.pow_le_pow_right (n := 2) (by decide) (lowWidth_le (repeatLengthOf (lengthToken k c e)) dict).2
    have := nextToken_of_copy hq hs hq' (shape_distancePart hp _)
    rw [BitVec.toNat_ofNat, Nat.mod_eq_of_lt (show low < 2 ^ 6 by omega)] at this
    rw [hn, this]
    rfl

theorem passes_of_byte (hk : k.legal = true) (ht : t.ready k (.token mode) = true) {r r' : BitReader} (hr : r.wf = true)
    {b : Byte} (h : nextToken k t mode dict r = .byte b r') : r.Passes r' := by
  rcases nextToken_cases (dict := dict) hk ht hr with ⟨q, -, hn⟩ | ⟨r', hd, hn⟩ | ⟨i, b, r', hd, hs, hp, hn⟩ |
    ⟨i, c, e, r₁, hd, hs, hc, he, hne, -, ⟨q, -, hn⟩ | ⟨p, low, r', hd', hp, hl, -, hn⟩⟩ <;> rw [hn] at h <;> cases h
  exact hp

theorem passes_of_copy (hk : k.legal = true) (ht : t.ready k (.token mode) = true) {r r' : BitReader} (hr : r.wf = true)
    {n d : Nat} (h : nextToken k t mode dict r = .copy n d r') : r.Passes r' := by
  rcases nextToken_cases (dict := dict) hk ht hr with ⟨q, -, hn⟩ | ⟨r', hd, hn⟩ | ⟨i, b, r', hd, hs, hp, hn⟩ |
    ⟨i, c, e, r₁, hd, hs, hc, he, hne, hp₁, ⟨q, -, hn⟩ | ⟨p, low, r', hd', hp, hl, hp', hn⟩⟩ <;> rw [hn] at h
  · exact NextToken.noConfusion h
  · exact NextToken.noConfusion h
  · exact NextToken.noConfusion h
  · exact NextToken.noConfusion h
  · obtain ⟨-, -, rfl⟩ := NextToken.copy.inj h
    exact hp₁.trans hp'

end
end Machine
end Sys2Proof
end

section
/-! SUPPORT. The functional summary of a stream (R218), from a token boundary on and as a whole, and how it depends on more bytes. -/

namespace Sys2Proof.Machine

section
variable {k : CodeTables} {t : DecodeTables} {mode : CompressionMode} {dict : DictionarySize}

/-- Every token takes a bit, so more rounds than bits make no difference (R218). -/
theorem explodeTokens_fuel (hk : k.legal = true) (ht : t.ready k (.token mode) = true) {f g : Nat} {r : BitReader}
    (out : List Byte) (hr : r.wf = true) (hf : r.avail < f) (hg : r.avail < g) :
    explodeTokens k t mode dict f r out = explodeTokens k t mode dict g r out := by
  induction f generalizing g r out with
  | zero => exact absurd hf (Nat.not_lt_zero _)
  | succ f ih =>
    cases g with
    | zero => exact absurd hg (Nat.not_lt_zero _)
    | succ g =>
      rw [explodeTokens_succ, explodeTokens_succ]
      cases hn : nextToken k t mode dict r with
      | starved => rfl
      | stop => rfl
      | byte b r' =>
        have hp := passes_of_byte hk ht hr hn
        have := hp.avail
        exact ih _ hp.wf (by omega) (by omega)
      | copy n d r' =>
        have hp := passes_of_copy hk ht hr hn
        have := hp.avail
        dsimp only
        split
        · rfl
        · exact ih _ hp.wf (by omega) (by omega)

/-- The decode loop only adds to what has been put out. -/
theorem prefix_explodeTokens (f : Nat) (r : BitReader) (out : List Byte) :
    out <+: (explodeTokens k t mode dict f r out).1 := by
  induction f generalizing r out with
  | zero => exact List.prefix_refl out
  | succ f ih =>
    rw [explodeTokens_succ]
    cases nextToken k t mode dict r with
    | starved => exact List.prefix_refl out
    | stop => exact List.prefix_refl out
    | byte b r' => exact (List.prefix_append out [b]).trans (ih _ _)
    | copy n d r' =>
      dsimp only
      split
      · exact List.prefix_refl out
      · exact (List.prefix_append out _).trans (ih _ _)

/-- A stream cut short gives what the whole one gives, or is aborted with the beginning of it (R18, R216). -/
theorem explodeTokens_extend (hk : k.legal = true) (ht : t.ready k (.token mode) = true) {f g : Nat} (hfg : f ≤ g)
    {r : BitReader} (hr : r.wf = true) (out more : List Byte) :
    explodeTokens k t mode dict f r out = explodeTokens k t mode dict g (r.extend more) out ∨
    ((explodeTokens k t mode dict f r out).2 = (.error, .aborted) ∧
      (explodeTokens k t mode dict f r out).1 <+: (explodeTokens k t mode dict g (r.extend more) out).1) := by
  induction f generalizing g r out with
  | zero => exact .inr ⟨rfl, prefix_explodeTokens g _ out⟩
  | succ f ih =>
    obtain ⟨g, rfl⟩ : ∃ g', g = g' + 1 := ⟨g - 1, by omega⟩
    have hfg' : f ≤ g := Nat.le_of_succ_le_succ hfg
    by_cases hs : nextToken k t mode dict r = .starved
    · refine .inr ?_
      have he : explodeTokens k t mode dict (f + 1) r out = (out, .error, .aborted) := by rw [explodeTokens_succ, hs]
      rw [he]
      exact ⟨rfl, prefix_explodeTokens (g + 1) _ out⟩
    · rw [explodeTokens_succ, explodeTokens_succ k t mode dict g, nextToken_extend hk ht hr more hs]
      cases hn : nextToken k t mode dict r with
      | starved => exact absurd hn hs
      | stop => exact .inl rfl
      | byte b r' => exact ih hfg' (passes_of_byte hk ht hr hn).wf _
      | copy n d r' =>
        dsimp only [NextToken.extend]
        by_cases hd : out.length < d
        · rw [if_pos hd, if_pos hd]
          exact .inl rfl
        · rw [if_neg hd, if_neg hd]
          exact ih hfg' (passes_of_copy hk ht hr hn).wf _

end

/-! ### The rest of a stream -/

/-- The decode tables of the summary: all built. -/
abbrev allTables (k : CodeTables) : DecodeTables := (DecodeTables.built k).withAscii k

theorem allTables_ready (k : CodeTables) (sp : Space) : (allTables k).ready k sp = true := by
  simp [DecodeTables.ready, allTables, DecodeTables.withAscii, DecodeTables.built]

/-- What the rest of a stream gives from a token boundary on: the decode loop with rounds enough. -/
def explodeRest (k : CodeTables) (mode : CompressionMode) (dict : DictionarySize) (r : BitReader) (out : List Byte) :
    List Byte × Status × ErrorCode :=
  explodeTokens k (allTables k) mode dict (r.avail + 1) r out

section
variable {k : CodeTables} {mode : CompressionMode} {dict : DictionarySize} {r : BitReader}

/-- `explodeRest` token by token. -/
theorem explodeRest_eq (hk : k.legal = true) (hr : r.wf = true) (out : List Byte) : explodeRest k mode dict r out =
      match nextToken k (allTables k) mode dict r with
      | .starved => (out, .error, .aborted)
      | .byte b r' => explodeRest k mode dict r' (out ++ [b])
      | .copy n d r' =>
        if out.length < d then (out, .error, .distanceBeyondHistory)
        else explodeRest k mode dict r' (out ++ copied out n d)
      | .stop => (out, .done, .none) := by
  have ht := allTables_ready k (.token mode)
  rw [explodeRest, explodeTokens_succ]
  cases hn : nextToken k (allTables k) mode dict r with
  | starved => rfl
  | stop => rfl
  | byte b r' =>
    have hp := passes_of_byte hk ht hr hn
    exact explodeTokens_fuel hk ht _ hp.wf hp.avail (Nat.lt_succ_self _)
  | copy n d r' =>
    have hp := passes_of_copy hk ht hr hn
    dsimp only
    rw [explodeTokens_fuel hk ht _ hp.wf hp.avail (Nat.lt_succ_self _)]
    rfl

/-- With more bytes waiting, a token that is all there is the same and the rest has those bytes more (R219). -/
theorem explodeRest_extend (hk : k.legal = true) (hr : r.wf = true) (out more : List Byte)
    (h : nextToken k (allTables k) mode dict r ≠ .starved) :
    explodeRest k mode dict (r.extend more) out =
      match nextToken k (allTables k) mode dict r with
      | .starved => (out, .error, .aborted)
      | .byte b r' => explodeRest k mode dict (r'.extend more) (out ++ [b])
      | .copy n d r' =>
        if out.length < d then (out, .error, .distanceBeyondHistory)
        else explodeRest k mode dict (r'.extend more) (out ++ copied out n d)
      | .stop => (out, .done, .none) := by
  rw [explodeRest_eq hk (r := r.extend more) hr, nextToken_extend hk (allTables_ready k _) hr more h]
  cases nextToken k (allTables k) mode dict r <;> rfl

end

/-! ### The summary of a stream -/

/-- The reader where the header ends: the seed byte in `bitBuffer`, no extra bits (R103, R205). -/
def seedReader (seed : Byte) (rest : List Byte) : BitReader := ⟨seed.setWidth 16, 0, rest⟩

theorem seedReader_wf (seed : Byte) (rest : List Byte) : (seedReader seed rest).wf = true := by
  have := seed.isLt
  rw [BitReader.wf_iff]
  refine ⟨Nat.zero_le 7, ?_⟩
  simp only [seedReader, BitVec.toNat_setWidth, show (0 : BitVec 4).toNat = 0 from rfl]
  omega

theorem seedReader_avail (seed : Byte) (rest : List Byte) : (seedReader seed rest).avail = 8 + 8 * rest.length := rfl

theorem seedReader_extend (seed : Byte) (rest more : List Byte) :
    (seedReader seed rest).extend more = seedReader seed (rest ++ more) := rfl

theorem seedReader_bits (seed : Byte) (rest : List Byte) : (seedReader seed rest).bits = bytesToNat (seed :: rest) := by
  have := seed.isLt
  simp only [seedReader, BitReader.bits, bytesToNat, BitVec.toNat_setWidth, show (0 : BitVec 4).toNat = 0 from rfl,
    Nat.shiftLeft_eq]
  omega

/-- A stream of fewer than 4 bytes is aborted (R204, R216). -/
theorem explodeSummary_short (k : CodeTables) {stream : List Byte} (h : stream.length < 4) :
    explodeSummary k stream = ([], .error, .aborted) := by
  match stream with
  | [] => rfl
  | [_] => rfl
  | [_, _] => rfl
  | [_, _, _] => rfl
  | _ :: _ :: _ :: _ :: _ => simp only [List.length_cons] at h; omega

theorem explodeSummary_mode (k : CodeTables) {m d seed next : Byte} {rest : List Byte}
    (hm : CompressionMode.ofByte m = none) :
    explodeSummary k (m :: d :: seed :: next :: rest) = ([], .error, .invalidCompressionType) := by
  simp only [explodeSummary, hm]

theorem explodeSummary_dict (k : CodeTables) {m d seed next : Byte} {rest : List Byte} {mode : CompressionMode}
    (hm : CompressionMode.ofByte m = some mode) (hd : DictionarySize.ofByte d = none) :
    explodeSummary k (m :: d :: seed :: next :: rest) = ([], .error, .invalidDictionarySize) := by
  simp only [explodeSummary, hm, hd]

/-- Past a legal header the summary is what the tokens give. -/
theorem explodeSummary_tokens {k : CodeTables} (hk : k.legal = true) {m d seed next : Byte} {rest : List Byte}
    {mode : CompressionMode} {dict : DictionarySize} (hm : CompressionMode.ofByte m = some mode)
    (hd : DictionarySize.ofByte d = some dict) :
    explodeSummary k (m :: d :: seed :: next :: rest) =
      explodeRest k mode dict (seedReader seed (next :: rest)) [] := by
  simp only [explodeSummary, hm, hd]
  refine explodeTokens_fuel hk (allTables_ready k _) [] (seedReader_wf seed (next :: rest)) ?_ (Nat.lt_succ_self _)
  have := seedReader_avail seed (next :: rest)
  simp only [List.length_cons] at this ⊢
  simp only [seedReader] at this
  omega

/-- A stream and a longer one: the same summary, or the shorter is aborted with the beginning of the output (R18). -/
theorem explodeSummary_append {k : CodeTables} (hk : k.legal = true) (cut more : List Byte) :
    explodeSummary k cut = explodeSummary k (cut ++ more) ∨
    ((explodeSummary k cut).2 = (.error, .aborted) ∧ (explodeSummary k cut).1 <+: (explodeSummary k (cut ++ more)).1) := by
  match cut with
  | [] => exact .inr ⟨rfl, List.nil_prefix⟩
  | [_] => exact .inr ⟨rfl, List.nil_prefix⟩
  | [_, _] => exact .inr ⟨rfl, List.nil_prefix⟩
  | [_, _, _] => exact .inr ⟨rfl, List.nil_prefix⟩
  | m :: d :: seed :: next :: rest =>
    simp only [List.cons_append]
    cases hm : CompressionMode.ofByte m with
    | none => exact .inl (by rw [explodeSummary_mode k hm, explodeSummary_mode k hm])
    | some mode =>
      cases hd : DictionarySize.ofByte d with
      | none => exact .inl (by rw [explodeSummary_dict k hm hd, explodeSummary_dict k hm hd])
      | some dict =>
        rw [explodeSummary_tokens hk hm hd, explodeSummary_tokens hk hm hd]
        refine explodeTokens_extend hk (allTables_ready k _) ?_ (seedReader_wf seed (next :: rest)) [] more
        simp only [seedReader_avail, List.length_cons, List.length_append]
        omega

end Sys2Proof.Machine
end

section
/-! SUPPORT. Runs of the block, what a step runs, and the EXPLODE unit within a token (R206 to R213). -/

namespace Sys2Proof.Machine

/-! ### Runs -/

/-- The block comes from `s` to `t` in some number of steps. -/
def Reaches (s t : State) : Prop := ∃ n, Host.Core.run Sys2Proof.core n s = .next t

theorem reaches_refl (s : State) : Reaches s s := ⟨0, rfl⟩

theorem run_succ (n : Nat) (s : State) :
    Host.Core.run Sys2Proof.core (n + 1) s = andThen (step s) (Host.Core.run Sys2Proof.core n) := by
  simp only [Host.Core.run]
  change _ = andThen (Sys2Proof.core.step s) _
  cases Sys2Proof.core.step s <;> rfl

theorem run_add (m n : Nat) (s : State) : Host.Core.run Sys2Proof.core (m + n) s =
    andThen (Host.Core.run Sys2Proof.core m s) (Host.Core.run Sys2Proof.core n) := by
  induction m generalizing s with
  | zero => rw [Nat.zero_add]; rfl
  | succ m ih =>
    rw [Nat.add_right_comm, run_succ, run_succ]
    cases step s with
    | next s' => exact ih s'
    | fault f => rfl
    | refused r => rfl

theorem Reaches.trans {s t u : State} (h : Reaches s t) (h' : Reaches t u) : Reaches s u := by
  obtain ⟨m, hm⟩ := h
  obtain ⟨n, hn⟩ := h'
  exact ⟨m + n, by rw [run_add, hm]; exact hn⟩

theorem reaches_of_step {s t : State} (h : step s = .next t) : Reaches s t := ⟨1, by rw [run_succ, h]; rfl⟩

/-! ### What a step runs -/

/-- A step of a running push runs the token part the fetch decodes (R206, R208). -/
theorem step_of_instr {s : State} {sp : Space} {i : Instr} {r : BitReader} (hsp : s.x.space? = some sp)
    (h : decode s.cfg.tables s.x.tables sp s.x.reader = .instr i r) :
    step s = exec i { s with x := (s.x.atBoundary sp).commit r } := by
  have hb : decode s.cfg.tables (s.x.atBoundary sp).tables sp (s.x.atBoundary sp).reader = .instr i r := by
    cases sp <;> exact h
  unfold step fetch fetchStream
  simp only [hsp, hb]

/-- A step of a running push whose token part lacks input suspends it (R213). -/
theorem step_of_needMoreInput {s : State} {sp : Space} {r : BitReader} (hsp : s.x.space? = some sp)
    (h : decode s.cfg.tables s.x.tables sp s.x.reader = .needMoreInput r) :
    step s = suspendPush { s with x := (s.x.atBoundary sp).commit r } := by
  have hb : decode s.cfg.tables (s.x.atBoundary sp).tables sp (s.x.atBoundary sp).reader = .needMoreInput r := by
    cases sp <;> exact h
  unfold step fetch fetchStream
  simp only [hsp, hb]

/-- With no push running a step runs the host's oldest command (R350). -/
theorem step_of_command {s : State} {c : HostCommand} {rest : List HostCommand} {i : Instr} (hsp : s.x.space? = none)
    (hh : s.host = c :: rest) (h : decodeCommand c = .ok i) : step s = exec i { s with host := rest } := by
  unfold step fetch fetchHost
  simp only [hsp, hh, h]

theorem fetch_idle {s : State} (hsp : s.x.space? = none) (hh : s.host = []) : fetch s = .idle := by
  unfold fetch fetchHost
  simp only [hsp, hh]

/-- At a token boundary a running push reads a token (R206). -/
theorem space_token {x : XUnit} (hl : x.live = true) (hd : x.xstate = .decoding) (hn : x.repeatLength = none) :
    x.space? = some (.token x.mode) := by
  unfold XUnit.space?
  simp only [hl, hd, hn, if_true]

/-- After a length part it reads a distance part (R209). -/
theorem space_distance {x : XUnit} (hl : x.live = true) (hd : x.xstate = .decoding) {n : Nat}
    (hn : x.repeatLength = some n) : x.space? = some (.distance n x.dictBits x.distMask) := by
  unfold XUnit.space?
  simp only [hl, hd, hn, if_true]

theorem space_none {x : XUnit} (h : x.xstate = .suspended ∨ x.xstate = .complete ∨ x.xstate = .error) :
    x.space? = none := by
  unfold XUnit.space?
  split
  · rcases h with h | h | h <;> rw [h]
  · rfl

theorem space_awaitingHeader {x : XUnit} (hl : x.live = true) (h : x.xstate = .awaitingHeader) :
    x.space? = if 4 ≤ x.inBuf.size then some .header else none := by
  unfold XUnit.space?
  rw [if_pos hl, h]

/-- `exec` of an instruction that is no host command, by its shape. -/
theorem exec_literal {i : Instr} {b : Byte} (h : i.shape = .literalBinary b ∨ i.shape = .literalAscii b) (s : State) :
    exec i s = executeToken b.toNat s := by
  rw [exec_eq_execShape, execShape]
  rcases h with h | h <;> rw [h]

theorem exec_length {i : Instr} {c e : Nat} (h : i.shape = .length c e) (s : State) :
    exec i s = executeToken (lengthToken s.cfg.tables c e) s := by
  rw [exec_eq_execShape, execShape, h]

theorem exec_distance {i : Instr} {p : Nat} {low : BitVec 6} (h : i.shape = .distance p low) (s : State) :
    exec i s = executeDistance p low s := by
  rw [exec_eq_execShape, execShape, h]

/-! ### The reader of a unit -/

/-- `commit` brings the unit's reader where the decode left it (R183). -/
theorem commit_reader {x : XUnit} {r : BitReader} (hb : x.inBuf.wf = true) (h : r.input <:+ x.inBuf.contents) :
    (x.commit r).reader = r := by
  have hl := length_contents hb
  obtain ⟨pre, hp⟩ := h
  have hlen := congrArg List.length hp
  rw [List.length_append] at hlen
  have hc : (x.commit r).inBuf.contents = r.input := by
    rw [commit_inBuf, contents_dropStart hb, ← hp, List.drop_left' (by omega)]
  rw [XUnit.reader, hc, commit_bitBuffer, commit_extraBits]

theorem commit_inBuf_wf {x : XUnit} (r : BitReader) (hb : x.inBuf.wf = true) : (x.commit r).inBuf.wf = true :=
  wf_dropStart hb _

/-- `x` is `x₀` at a token boundary after `backup()`, with some of the token's bits consumed and its length part perhaps
decoded (R208, R209). -/
structure XUnit.Since (x₀ x : XUnit) : Prop where
  eq : x = { x₀ with snap := some (x₀.bitBuffer, x₀.extraBits), bitBuffer := x.bitBuffer, extraBits := x.extraBits,
                     inBuf := x.inBuf, repeatLength := x.repeatLength }
  heap : x.inBuf.heap = x₀.inBuf.heap
  capacity : x.inBuf.capacity = x₀.inBuf.capacity
  saved : x.inBuf.saved = some (x₀.inBuf.start, x₀.inBuf.stop)

theorem since_backup (x : XUnit) : x.Since x.backup := ⟨rfl, rfl, rfl, rfl⟩

theorem XUnit.Since.commit {x₀ x : XUnit} (h : x₀.Since x) (r : BitReader) : x₀.Since (x.commit r) where
  eq := by
    conv_lhs => rw [h.eq]
    rfl
  heap := by rw [commit_inBuf, dropStart_heap, h.heap]
  capacity := by rw [commit_inBuf, dropStart_capacity, h.capacity]
  saved := by rw [commit_inBuf, dropStart_saved, h.saved]

/-- `suspend()` brings the unit back to where its token began (R209, R213). -/
theorem suspend_since {x₀ x : XUnit} (h : x₀.Since x) :
    x.suspend = .next { x₀.backup with xstate := .suspended, needMoreInput := true, repeatLength := none } := by
  rw [suspend_eq_next]
  have hsnap : x.snap = some (x₀.bitBuffer, x₀.extraBits) := by rw [h.eq]
  refine ⟨_, restore_eq_next.2 ⟨_, _, hsnap, h.saved, rfl⟩, ?_⟩
  have hbuf : ({ x.inBuf with start := x₀.inBuf.start, stop := x₀.inBuf.stop } : Buffer) = x₀.inBuf.saveIndices := by
    rw [Buffer.saveIndices, ← h.saved, ← h.heap, ← h.capacity]
  rw [hbuf]
  conv_rhs => rw [h.eq]
  rfl

end Sys2Proof.Machine
end

section
/-! SUPPORT. The copy in closed form (R211), the drain (R283, R284), and what has been put out. -/

namespace Sys2Proof.Machine

/-! ### The copy -/

/-- The copy of one byte more starts with the byte at the distance (R211, R84). -/
theorem copied_succ {out : List Byte} {d : Nat} (hd : 1 ≤ d) (hle : d ≤ out.length) (n : Nat) :
    copied out (n + 1) d = out.getD (out.length - d) 0 :: copied (out ++ [out.getD (out.length - d) 0]) n d := by
  unfold copied
  rw [List.range_succ_eq_map, List.map_cons, List.map_map, Nat.zero_mod, Nat.add_zero]
  congr 1
  refine List.map_congr_left fun j _ => ?_
  simp only [Function.comp_apply, List.length_append, List.length_singleton, Nat.succ_eq_add_one]
  have hj := Nat.mod_lt j hd
  rw [← Nat.mod_add_mod j d 1]
  by_cases hw : j % d + 1 = d
  · rw [hw, Nat.mod_self, List.getD_append_right _ _ _ _ (by omega),
      show out.length + 1 - d + j % d - out.length = 0 by omega]
    rfl
  · rw [Nat.mod_eq_of_lt (by omega), List.getD_append _ _ _ _ (by omega)]
    congr 1
    omega

/-- The loop of R211 appends the bytes in closed form. -/
theorem copyLoop_eq {out : List Byte} {d : Nat} (hd : 1 ≤ d) (hle : d ≤ out.length) (n : Nat) :
    copyLoop out d n = some (out ++ copied out n d) := by
  induction n generalizing out with
  | zero => simp [copyLoop, copied]
  | succ n ih =>
    have hb : out[out.length - d]? = some (out.getD (out.length - d) 0) := by
      rw [List.getD_eq_getElem _ _ (by omega), List.getElem?_eq_getElem]
    rw [copyLoop, if_neg (by omega), hb]
    dsimp only
    rw [ih (by rw [List.length_append]; omega), copied_succ hd hle, List.append_assoc]
    rfl

theorem copiedBytes_eq {out : List Byte} {d : Nat} (hd : 1 ≤ d) (hle : d ≤ out.length) (n : Nat) :
    copiedBytes out n d = some (copied out n d) := by
  rw [copiedBytes, copyLoop_eq hd hle, Option.map_some, List.drop_left]

/-- A copy within the last bytes of a history needs only those (R210, R283). -/
theorem copied_append {early late : List Byte} {d : Nat} (hle : d ≤ late.length) (n : Nat) :
    copied (early ++ late) n d = copied late n d := by
  unfold copied
  refine List.map_congr_left fun j _ => ?_
  rw [List.length_append, List.getD_append_right _ _ _ _ (by omega)]
  congr 1
  omega

/-! ### The drain -/

/-- A drain takes bytes off the front and leaves a block or everything (R283, R284). -/
theorem drain_spec {block : Nat} {b : Buffer} (hb : b.wf = true) (hblock : 1 ≤ block) :
    ∃ b' out, drain block b = .next (b', out) ∧ out ++ b'.contents = b.contents ∧ b'.wf = true ∧
      min block b.size ≤ b'.size := by
  rcases Nat.lt_or_ge block b.size with h | h
  · have hle := drainCount_le block b.size
    obtain ⟨b', hf, hc, hw, -⟩ := flushStart_eq hb hle
    refine ⟨b', _, drain_eq_next.2 (.inr ⟨h, readBytes_zero hb hle, hf⟩), ?_, hw, ?_⟩
    · rw [hc, List.take_append_drop]
    · have hs := length_contents hw
      rw [hc, List.length_drop, length_contents hb] at hs
      rw [← hs, drainCount, if_pos h]
      have h1 := Nat.div_mul_le_self b.size block
      have h2 : 1 ≤ b.size / block := (Nat.one_le_div_iff hblock).2 (Nat.le_of_lt h)
      rw [Nat.sub_mul, Nat.one_mul]
      have h3 := Nat.mul_le_mul_right block h2
      omega
  · exact ⟨b, [], drain_eq_next.2 (.inl ⟨h, rfl, rfl⟩), List.nil_append _, hb, Nat.min_le_right ..⟩

/-! ### What has been handed out -/

/-- The outputs of the block's answers, concatenated (R19). -/
def State.delivered (s : State) : List Byte := s.responses.flatMap fun r => r.out

@[simp] theorem delivered_respond (s : State) (r : Response) : (s.respond r).delivered = s.delivered ++ r.out := by
  simp [State.delivered, List.flatMap_append]

/-- Everything the EXPLODE unit has put out, delivered or not. -/
def State.output (s : State) : List Byte := s.delivered ++ s.x.outBuf.contents

/-- The end of a push hands out what the drain releases and answers once (R203). -/
theorem finishPush_spec {s : State} (hb : s.x.outBuf.wf = true) (hblock : 1 ≤ s.cfg.blockX) :
    ∃ b out, finishPush s =
        .next (({ s with x := { s.x with outBuf := b } } : State).respond ⟨s.x.xstate.status, .none, out⟩) ∧
      out ++ b.contents = s.x.outBuf.contents ∧ b.wf = true ∧ min s.cfg.blockX s.x.outBuf.size ≤ b.size := by
  obtain ⟨b, out, hd, hc, hw, hs⟩ := drain_spec hb hblock
  exact ⟨b, out, finishPush_eq_next.2 ⟨b, out, hd, rfl⟩, hc, hw, hs⟩

/-- An error hands everything out (R307). -/
theorem raiseX_spec (k : ErrorCode) {s : State} (hb : s.x.outBuf.wf = true) : raiseX k s = .next (s.raisedX k) :=
  raiseX_eq_next.2 ⟨_, readBytes_all hb, rfl⟩

theorem config_legal {cfg : Config} (h : cfg.legal = true) :
    0x1000 ≤ cfg.blockX ∧ 1 ≤ cfg.blockI ∧ cfg.tables.legal = true := by
  simpa [Config.legal, and_assoc] using h

end Sys2Proof.Machine
end

section
/-! SUPPORT. One push of the EXPLODE unit computes what the summary says of its stream, up to the token that lacks input (R203,
R206 to R213). -/

namespace Sys2Proof.Machine

/-! ### The unit at a token boundary -/

/-- The decoder sees no more of a unit's tables than what makes them ready. -/
theorem decode_token_ready {k : CodeTables} {t : DecodeTables} {mode : CompressionMode} (r : BitReader)
    (h : t.ready k (.token mode) = true) : decode k t (.token mode) r = decode k (allTables k) (.token mode) r := by
  simp only [DecodeTables.ready, Bool.and_eq_true, beq_iff_eq, Bool.or_eq_true, bne_iff_ne] at h
  obtain ⟨⟨hlen, -⟩, hascii⟩ := h
  have hl : decodeLength k t = decodeLength k (allTables k) := by
    funext r
    unfold decodeLength
    rw [hlen]
    rfl
  unfold decode decodeToken
  rw [hl]
  cases mode with
  | binary => rfl
  | ascii =>
    rw [hascii.resolve_left (fun h => h rfl)]
    rfl

theorem decode_distance_ready {k : CodeTables} {t : DecodeTables} {mode : CompressionMode} (n : Nat) (d : DictionarySize)
    (mask : BitVec 6) (r : BitReader) (h : t.ready k (.token mode) = true) :
    decode k t (.distance n d mask) r = decode k (allTables k) (.distance n d mask) r := by
  simp only [DecodeTables.ready, Bool.and_eq_true, beq_iff_eq] at h
  unfold decode decodeDistancePart
  rw [h.1.2]
  rfl

/-- The EXPLODE unit stands at a token boundary with the reader `r` and has put out `out`: delivered, or still in
`outBuf`, which holds a block or everything (R206, R213, R283). -/
structure ExplodeAt (cfg : Config) (mode : CompressionMode) (dict : DictionarySize) (r : BitReader) (out : List Byte)
    (s : State) : Prop where
  params : s.cfg = cfg
  live : s.x.live = true
  modeIs : s.x.mode = mode
  dictIs : s.x.dictBits = dict
  maskIs : s.x.distMask = dict.distMask
  tables : s.x.tables.ready cfg.tables (.token mode) = true
  boundary : s.x.repeatLength = none
  reader : s.x.reader = r
  readerWf : r.wf = true
  inBufWf : s.x.inBuf.wf = true
  outBufWf : s.x.outBuf.wf = true
  output : s.output = out
  history : min out.length 0x1000 ≤ s.x.outBuf.size

/-- The EXPLODE unit has decoded its stream to the end, or failed, with this output, status and code (R212, R307). -/
structure Ended (cfg : Config) (res : List Byte × Status × ErrorCode) (s : State) : Prop where
  params : s.cfg = cfg
  live : s.x.live = true
  outBufWf : s.x.outBuf.wf = true
  output : s.output = res.1
  state : (s.x.xstate = .complete ∧ res.2 = (.done, .none)) ∨
    (s.x.xstate = .error ∧ s.x.outBuf.contents = [] ∧ res.2 = (.error, s.x.err))

/-- What one command leaves of the host's side: the rest of the queue, and one answer more. -/
structure AnsweredOnce (s t : State) : Prop where
  host : t.host = s.host
  responses : t.responses.length = s.responses.length + 1

theorem XUnit.Since.fields {x₀ x : XUnit} (h : x₀.Since x) :
    x.live = x₀.live ∧ x.xstate = x₀.xstate ∧ x.mode = x₀.mode ∧ x.dictBits = x₀.dictBits ∧ x.distMask = x₀.distMask ∧
      x.tables = x₀.tables ∧ x.outBuf = x₀.outBuf := by
  refine ⟨?_, ?_, ?_, ?_, ?_, ?_, ?_⟩ <;> rw [h.eq]

theorem XUnit.Since.withLength {x₀ x : XUnit} (h : x₀.Since x) (n : Option Nat) :
    x₀.Since { x with repeatLength := n } where
  eq := by
    conv_lhs => rw [h.eq]
  heap := h.heap
  capacity := h.capacity
  saved := h.saved

section
variable {cfg : Config} {mode : CompressionMode} {dict : DictionarySize} {r r' : BitReader} {out : List Byte} {s : State}

theorem ExplodeAt.blockX (hcfg : cfg.legal = true) (h : ExplodeAt cfg mode dict r out s) : 0x1000 ≤ s.cfg.blockX := by
  rw [h.params]
  exact (config_legal hcfg).1

theorem ExplodeAt.input (h : ExplodeAt cfg mode dict r out s) : s.x.inBuf.contents = r.input := by
  rw [← h.reader]
  rfl

theorem ExplodeAt.space (h : ExplodeAt cfg mode dict r out s) (hd : s.x.xstate = .decoding) :
    s.x.space? = some (.token mode) := by
  rw [space_token h.live hd h.boundary, h.modeIs]

theorem ExplodeAt.decode (h : ExplodeAt cfg mode dict r out s) :
    decode s.cfg.tables s.x.tables (.token mode) s.x.reader = decode cfg.tables (allTables cfg.tables) (.token mode) r := by
  rw [h.params, h.reader, decode_token_ready r h.tables]

/-- A token that lacks input suspends the unit at the token's beginning, with one answer (R209, R213). -/
theorem suspendPush_at (hcfg : cfg.legal = true) (h : ExplodeAt cfg mode dict r out s) {y : XUnit} (hy : s.x.Since y) :
    ∃ t, suspendPush { s with x := y } = .next t ∧ AnsweredOnce s t ∧ ExplodeAt cfg mode dict r out t ∧
      t.x.xstate = .suspended := by
  have hblock := h.blockX hcfg
  obtain ⟨b, o, hf, hc, hw, hs⟩ := finishPush_spec (s := { s with x :=
    { s.x.backup with xstate := .suspended, needMoreInput := true, repeatLength := none } }) h.outBufWf
      (Nat.le_trans (by decide) hblock)
  refine ⟨_, suspendPush_eq_next.2 ⟨_, suspend_since hy, hf⟩, ⟨rfl, by simp⟩, ?_, rfl⟩
  exact
    { params := h.params, live := h.live, modeIs := h.modeIs, dictIs := h.dictIs, maskIs := h.maskIs, tables := h.tables
      boundary := rfl, reader := h.reader, readerWf := h.readerWf, inBufWf := h.inBufWf, outBufWf := hw
      output := by
        rw [← h.output]
        simp only [State.output, delivered_respond, List.append_assoc, respond_x, hc]
        rfl
      history := by
        have h1 := h.history
        simp only [respond_x, backup_outBuf] at hs ⊢
        omega }

/-- A token that puts out `bytes` brings the unit to the next boundary. -/
theorem ExplodeAt.put (h : ExplodeAt cfg mode dict r out s) {y : XUnit} (hy : s.x.Since y) (hr : y.reader = r')
    (hr' : r'.wf = true) (hb : y.inBuf.wf = true) (bytes : List Byte) :
    ExplodeAt cfg mode dict r' (out ++ bytes)
      { s with x := { y with outBuf := y.outBuf.append bytes, repeatLength := none } } := by
  obtain ⟨hlive, -, hmode, hdict, hmask, htables, hout⟩ := hy.fields
  exact
    { params := h.params, live := hlive.trans h.live, modeIs := hmode.trans h.modeIs, dictIs := hdict.trans h.dictIs
      maskIs := hmask.trans h.maskIs, tables := htables ▸ h.tables, boundary := rfl, reader := hr
      readerWf := hr', inBufWf := hb, outBufWf := by simp only [hout]; exact wf_append h.outBufWf bytes
      output := by
        simp only [State.output, hout, contents_append h.outBufWf, ← h.output, List.append_assoc]
        rfl
      history := by
        have h1 := h.history
        simp only [hout, size_append h.outBufWf, List.length_append]
        omega }

theorem with_no_length {y : XUnit} (b : Buffer) (h : y.repeatLength = none) :
    ({ y with outBuf := b } : XUnit) = { y with outBuf := b, repeatLength := none } := by
  cases y
  subst h
  rfl

/-- The unit after the fetch of a token part: the same boundary, the reader where the part ends. -/
theorem ExplodeAt.fetched (h : ExplodeAt cfg mode dict r out s) (hp : r.Passes r') :
    s.x.Since (s.x.backup.commit r') ∧ (s.x.backup.commit r').reader = r' ∧ (s.x.backup.commit r').inBuf.wf = true := by
  refine ⟨(since_backup s.x).commit r', commit_reader (x := s.x.backup) h.inBufWf ?_,
    commit_inBuf_wf (x := s.x.backup) r' h.inBufWf⟩
  have := hp.input
  rwa [← h.input] at this

/-- A literal is put out, and the push goes on (R207). -/
theorem step_literal (h : ExplodeAt cfg mode dict r out s) (hd : s.x.xstate = .decoding) {i : Instr} {b : Byte}
    (hi : decode cfg.tables (allTables cfg.tables) (.token mode) r = .instr i r')
    (hs : i.shape = .literalBinary b ∨ i.shape = .literalAscii b) (hp : r.Passes r') :
    ∃ t, step s = .next t ∧ t.host = s.host ∧ t.responses = s.responses ∧ ExplodeAt cfg mode dict r' (out ++ [b]) t ∧
      t.x.xstate = .decoding := by
  obtain ⟨hy, hr, hb⟩ := h.fetched hp
  have hb8 := b.isLt
  have hput := h.put hy hr hp.wf hb [b]
  refine ⟨_, ?_, ?_, ?_, hput, hd⟩
  rotate_left
  · rfl
  · rfl
  rw [step_of_instr (h.space hd) (h.decode.trans hi), exec_literal hs]
  refine executeToken_eq_next.2 ⟨hd, .inr (.inr ⟨hb8, ?_⟩)⟩
  rw [BitVec.ofNat_toNat, BitVec.setWidth_eq]
  exact congrArg (fun x => { s with x := x }) (with_no_length (y := s.x.backup.commit r') _ h.boundary).symm

/-- END completes the unit (R212). -/
theorem step_end (hcfg : cfg.legal = true) (h : ExplodeAt cfg mode dict r out s) (hd : s.x.xstate = .decoding)
    (hi : decode cfg.tables (allTables cfg.tables) (.token mode) r = .instr .endToken r') :
    ∃ t, step s = .next t ∧ AnsweredOnce s t ∧ Ended cfg (out, .done, .none) t := by
  have hblock := h.blockX hcfg
  obtain ⟨b, o, hf, hc, hw, -⟩ := finishPush_spec (s := { s with x := (s.x.backup.commit r').complete }) h.outBufWf
    (Nat.le_trans (by decide) hblock)
  have hstep : step s = .next _ :=
    (step_of_instr (h.space hd) (h.decode.trans hi)).trans (executeToken_eq_next.2 ⟨hd, .inl ⟨rfl, hf⟩⟩)
  refine ⟨_, hstep, ⟨rfl, ?_⟩, ⟨h.params, h.live, hw, ?_, .inl ⟨rfl, rfl⟩⟩⟩
  · simp
  · rw [← h.output]
    simp only [State.output, delivered_respond, List.append_assoc, respond_x, hc]
    rfl

/-- The unit after the length part of a COPY (R209). -/
def midCopy (s : State) (r₁ : BitReader) (n : Nat) : State :=
  { s with x := { s.x.backup.commit r₁ with repeatLength := some n } }

theorem midCopy_since (h : ExplodeAt cfg mode dict r out s) (hp : r.Passes r') (n : Nat) :
    s.x.Since (midCopy s r' n).x ∧ (midCopy s r' n).x.reader = r' ∧ (midCopy s r' n).x.inBuf.wf = true := by
  obtain ⟨hy, hr, hb⟩ := h.fetched hp
  exact ⟨hy.withLength (some n), hr, hb⟩

/-- A length part fixes the repeat length (R209, R110). -/
theorem step_length (hk : cfg.tables.legal = true) (h : ExplodeAt cfg mode dict r out s) (hd : s.x.xstate = .decoding)
    {i : Instr} {c e : Nat} (hi : decode cfg.tables (allTables cfg.tables) (.token mode) r = .instr i r')
    (hs : i.shape = .length c e) (hc : c < 16) (he : e < 2 ^ cfg.tables.exLenBits.getD c 0)
    (hne : ¬(c = 15 ∧ e = 0xFF)) : step s = .next (midCopy s r' (repeatLengthOf (lengthToken cfg.tables c e))) := by
  obtain ⟨h1, h2⟩ := lengthToken_bounds hk hc he hne
  rw [step_of_instr (h.space hd) (h.decode.trans hi), exec_length hs]
  refine executeToken_eq_next.2 ⟨hd, .inr (.inl ⟨?_, ?_, ?_⟩)⟩
  · rw [h.params]; exact Nat.ne_of_lt h2
  · rw [h.params]; exact h1
  · rw [midCopy, ← h.params]; rfl

theorem midCopy_space (h : ExplodeAt cfg mode dict r out s) (hd : s.x.xstate = .decoding) (n : Nat) :
    (midCopy s r' n).x.space? = some (.distance n dict dict.distMask) := by
  rw [space_distance (x := (midCopy s r' n).x) h.live hd rfl, ← h.maskIs, ← h.dictIs]
  rfl

theorem midCopy_decode (h : ExplodeAt cfg mode dict r out s) (hp : r.Passes r') (n : Nat) (sp : DictionarySize) :
    decode (midCopy s r' n).cfg.tables (midCopy s r' n).x.tables (.distance n sp sp.distMask) (midCopy s r' n).x.reader =
      decode cfg.tables (allTables cfg.tables) (.distance n sp sp.distMask) r' := by
  rw [(midCopy_since h hp n).2.1, ← decode_distance_ready n sp sp.distMask r' h.tables, ← h.params]
  rfl

/-- The true distance lies within the largest window (R108). -/
theorem trueDistance_bounds {n p low : Nat} {d : DictionarySize} (hp : p < 64) (hl : low < 2 ^ lowWidth n d) :
    1 ≤ trueDistance n d p low ∧ trueDistance n d p low ≤ 0x1000 := by
  have h6 := Nat.pow_le_pow_right (n := 2) (by decide) (lowWidth_le n d).2
  unfold trueDistance storedDistance
  rw [← Nat.shiftLeft_add_eq_or_of_lt hl, Nat.shiftLeft_eq]
  have := Nat.mul_le_mul (Nat.le_of_lt_succ hp) h6
  omega

/-- What the unit still holds of its output settles whether a distance is within the history (R210, R283). -/
theorem ExplodeAt.size_lt_iff (h : ExplodeAt cfg mode dict r out s) {d : Nat} (hd : d ≤ 0x1000) :
    s.x.outBuf.size < d ↔ out.length < d := by
  have h1 := h.history
  have h2 := congrArg List.length h.output
  rw [State.output, List.length_append, length_contents h.outBufWf] at h2
  omega

/-- A distance part puts the copy out, and the push goes on (R211). -/
theorem step_distance {r₁ : BitReader} (h : ExplodeAt cfg mode dict r out s) (hd : s.x.xstate = .decoding)
    (hp₁ : r.Passes r₁) {n p low : Nat}
    (hi : decode cfg.tables (allTables cfg.tables) (.distance n dict dict.distMask) r₁ =
      .instr (distancePart p (BitVec.ofNat 6 low)) r') (hp64 : p < 64) (hl : low < 2 ^ lowWidth n dict)
    (hp : r₁.Passes r') (hle : trueDistance n dict p low ≤ out.length) :
    ∃ t, step (midCopy s r₁ n) = .next t ∧ t.host = s.host ∧ t.responses = s.responses ∧
      ExplodeAt cfg mode dict r' (out ++ copied out n (trueDistance n dict p low)) t ∧ t.x.xstate = .decoding := by
  obtain ⟨hy, hr, hb⟩ := midCopy_since h hp₁ n
  have hinput : r'.input <:+ (midCopy s r₁ n).x.inBuf.contents := by
    have := hp.input
    rwa [← hr] at this
  have h6 := Nat.pow_le_pow_right (n := 2) (by decide) (lowWidth_le n dict).2
  obtain ⟨hd1, hd2⟩ := trueDistance_bounds hp64 hl
  have hsize : trueDistance n dict p low ≤ s.x.outBuf.size :=
    Nat.le_of_not_lt fun hlt => absurd ((h.size_lt_iff hd2).1 hlt) (Nat.not_lt.2 hle)
  have hcopy : copied out n (trueDistance n dict p low) = copied s.x.outBuf.contents n (trueDistance n dict p low) := by
    rw [← h.output, State.output, copied_append (by rwa [length_contents h.outBufWf])]
  have hput := h.put (hy.commit r') (commit_reader hb hinput) hp.wf (commit_inBuf_wf r' hb)
    (copied out n (trueDistance n dict p low))
  refine ⟨_, ?_, ?_, ?_, hput, hd⟩
  rotate_left
  · rfl
  · rfl
  rw [step_of_instr (midCopy_space h hd n) ((midCopy_decode h hp₁ n dict).trans hi),
    exec_distance (shape_distancePart hp64 _)]
  refine executeDistance_eq_next.2 ⟨hd, n, rfl, .inr ?_⟩
  have hlow : (BitVec.ofNat 6 low).toNat = low := by rw [BitVec.toNat_ofNat]; exact Nat.mod_eq_of_lt (by omega)
  have hdict : ((midCopy s r₁ n).x.commit r').dictBits = dict := h.dictIs
  rw [hlow]
  refine ⟨?_, copied out n (trueDistance n dict p low), ?_, rfl⟩
  · rw [← h.dictIs] at hsize
    exact hsize
  · rw [hcopy, ← copiedBytes_eq hd1 (by rwa [length_contents h.outBufWf]), ← h.dictIs]
    rfl

/-- A distance beyond the history fails the unit (R210, R307). -/
theorem step_distance_error {r₁ : BitReader} (h : ExplodeAt cfg mode dict r out s) (hd : s.x.xstate = .decoding)
    (hp₁ : r.Passes r₁) {n p low : Nat}
    (hi : decode cfg.tables (allTables cfg.tables) (.distance n dict dict.distMask) r₁ =
      .instr (distancePart p (BitVec.ofNat 6 low)) r') (hp64 : p < 64) (hl : low < 2 ^ lowWidth n dict)
    (hlt : out.length < trueDistance n dict p low) :
    ∃ t, step (midCopy s r₁ n) = .next t ∧ AnsweredOnce s t ∧ Ended cfg (out, .error, .distanceBeyondHistory) t := by
  have h6 := Nat.pow_le_pow_right (n := 2) (by decide) (lowWidth_le n dict).2
  have hlow : (BitVec.ofNat 6 low).toNat = low := by rw [BitVec.toNat_ofNat]; exact Nat.mod_eq_of_lt (by omega)
  have hsize := (h.size_lt_iff (trueDistance_bounds hp64 hl).2).2 hlt
  have hstep : step (midCopy s r₁ n) =
      .next (State.raisedX { s with x := (midCopy s r₁ n).x.commit r' } .distanceBeyondHistory) := by
    rw [step_of_instr (midCopy_space h hd n) ((midCopy_decode h hp₁ n dict).trans hi),
      exec_distance (shape_distancePart hp64 _)]
    refine executeDistance_eq_next.2 ⟨hd, n, rfl, .inl ⟨?_, raiseX_spec _ h.outBufWf⟩⟩
    rw [hlow]
    rw [← h.dictIs] at hsize
    exact hsize
  refine ⟨_, hstep, ⟨rfl, by simp [State.raisedX]⟩, h.params, h.live, wf_clear h.outBufWf, ?_,
    .inr ⟨rfl, contents_clear _, rfl⟩⟩
  rw [← h.output, State.output, State.raisedX, delivered_respond, respond_x, contents_clear, List.append_nil]
  rfl

end

/-! ### A running push -/

/-- Where a push that began at the reader `r` with `out` put out has left the unit: suspended at a token that lacks
input, or with the stream's result; and whatever bytes follow, the rest of the stream gives the same from there. -/
def PushStopped (cfg : Config) (mode : CompressionMode) (dict : DictionarySize) (r : BitReader) (out : List Byte)
    (t : State) : Prop :=
  (∃ r' out', ExplodeAt cfg mode dict r' out' t ∧ t.x.xstate = .suspended ∧
      nextToken cfg.tables (allTables cfg.tables) mode dict r' = .starved ∧
      ∀ more, explodeRest cfg.tables mode dict (r.extend more) out = explodeRest cfg.tables mode dict (r'.extend more) out') ∨
    ∃ res, Ended cfg res t ∧ ∀ more, explodeRest cfg.tables mode dict (r.extend more) out = res

theorem PushStopped.of_rest {cfg : Config} {mode : CompressionMode} {dict : DictionarySize} {r r' : BitReader}
    {out out' : List Byte} {t : State} (h : PushStopped cfg mode dict r' out' t)
    (he : ∀ more, explodeRest cfg.tables mode dict (r.extend more) out =
      explodeRest cfg.tables mode dict (r'.extend more) out') : PushStopped cfg mode dict r out t := by
  simpa only [PushStopped, he] using h

/-- A running push of the EXPLODE unit ends with one answer, and does what the summary does (R203, R206, R219). -/
theorem push_runs {cfg : Config} {mode : CompressionMode} {dict : DictionarySize} (hcfg : cfg.legal = true) (n : Nat)
    {r : BitReader} {out : List Byte} {s : State} (hn : r.avail ≤ n) (h : ExplodeAt cfg mode dict r out s)
    (hd : s.x.xstate = .decoding) :
    ∃ t, Reaches s t ∧ AnsweredOnce s t ∧ PushStopped cfg mode dict r out t := by
  have hk := (config_legal hcfg).2.2
  induction n generalizing r out s with
  | zero =>
    have := r.eight_le_avail
    omega
  | succ n ih =>
    have hrest := explodeRest_extend (mode := mode) (dict := dict) hk h.readerWf out
    rcases nextToken_cases (dict := dict) hk (allTables_ready cfg.tables (.token mode)) h.readerWf with
      ⟨q, hq, hs⟩ | ⟨r', hi, hs⟩ | ⟨i, b, r', hi, hshape, hp, hs⟩ | ⟨i, c, e, r₁, hi, hshape, hc, he, hne, hp₁, hdist⟩
    · obtain ⟨t, hstep, hans, hat, hsus⟩ := suspendPush_at hcfg h ((since_backup s.x).commit q)
      have hstep' := (step_of_needMoreInput (h.space hd) (h.decode.trans hq)).trans hstep
      exact ⟨t, reaches_of_step hstep', hans, .inl ⟨r, out, hat, hsus, hs, fun _ => rfl⟩⟩
    · obtain ⟨t, hstep, hans, hend⟩ := step_end hcfg h hd hi
      simp only [hs] at hrest
      exact ⟨t, reaches_of_step hstep, hans, .inr ⟨_, hend, fun more => hrest more (fun h => nomatch h)⟩⟩
    · obtain ⟨t₁, hstep, hhost, hresp, hat, hd₁⟩ := step_literal h hd hi hshape hp
      obtain ⟨t, hreach, hans, hstop⟩ := ih (by have := hp.avail; omega) hat hd₁
      simp only [hs] at hrest
      exact ⟨t, (reaches_of_step hstep).trans hreach, ⟨hans.host.trans hhost, by rw [hans.responses, hresp]⟩,
        hstop.of_rest fun more => hrest more (fun h => nomatch h)⟩
    · have hstep₁ := step_length hk h hd hi hshape hc he hne
      rcases hdist with ⟨q, hq, hs⟩ | ⟨p, low, r', hi', hp64, hl, hp, hs⟩
      · obtain ⟨hy, -, -⟩ := midCopy_since h hp₁ (repeatLengthOf (lengthToken cfg.tables c e))
        obtain ⟨t, hstep, hans, hat, hsus⟩ := suspendPush_at hcfg h (hy.commit q)
        have hstep' := (step_of_needMoreInput (midCopy_space h hd _) ((midCopy_decode h hp₁ _ dict).trans hq)).trans hstep
        exact ⟨t, (reaches_of_step hstep₁).trans (reaches_of_step hstep'), hans,
          .inl ⟨r, out, hat, hsus, hs, fun _ => rfl⟩⟩
      · simp only [hs] at hrest
        by_cases hlt : out.length < trueDistance (repeatLengthOf (lengthToken cfg.tables c e)) dict p low
        · obtain ⟨t, hstep, hans, hend⟩ := step_distance_error h hd hp₁ hi' hp64 hl hlt
          exact ⟨t, (reaches_of_step hstep₁).trans (reaches_of_step hstep), hans,
            .inr ⟨_, hend, fun more => (hrest more (fun h => nomatch h)).trans (if_pos hlt)⟩⟩
        · obtain ⟨t₁, hstep, hhost, hresp, hat, hd₁⟩ := step_distance h hd hp₁ hi' hp64 hl hp (Nat.not_lt.1 hlt)
          obtain ⟨t, hreach, hans, hstop⟩ := ih (by have := hp.avail; have := hp₁.avail; omega) hat hd₁
          exact ⟨t, ((reaches_of_step hstep₁).trans (reaches_of_step hstep)).trans hreach,
            ⟨hans.host.trans hhost, by rw [hans.responses, hresp]⟩,
            hstop.of_rest fun more => (hrest more (fun h => nomatch h)).trans (if_neg hlt)⟩

end Sys2Proof.Machine
end

section
/-! SUPPORT. A session with the EXPLODE unit computes the summary of its stream: O56, and O57 and O58 from it. -/

namespace Sys2Proof.Machine

/-! ### The commands of the EXPLODE unit -/

theorem execXPush_awaitingHeader {s : State} {bytes : List Byte} (hl : s.x.live = true)
    (hx : s.x.xstate = .awaitingHeader) (hs : s.x.inBuf.size < 4) :
    exec (.xPush bytes) s =
      .next (if (s.x.inBuf.append bytes).size < 4
        then ({ s with x := { s.x with inBuf := s.x.inBuf.append bytes } } : State).respond ⟨.ready, .none, []⟩
        else { s with x := { s.x with inBuf := s.x.inBuf.append bytes } }) := by
  have hsp : s.x.space? = none := by rw [space_awaitingHeader hl hx, if_neg (Nat.not_le.2 hs)]
  change execXPush bytes s = _
  simp [execXPush, hl, hsp, hx]

theorem execXPush_suspended {s : State} {bytes : List Byte} (hl : s.x.live = true) (hx : s.x.xstate = .suspended) :
    exec (.xPush bytes) s =
      .next { s with x := { s.x with inBuf := s.x.inBuf.append bytes, xstate := .decoding, needMoreInput := false } } := by
  change execXPush bytes s = _
  simp [execXPush, hl, space_none (.inl hx), hx]

theorem execXPush_complete {s : State} {bytes : List Byte} (hl : s.x.live = true) (hx : s.x.xstate = .complete) :
    exec (.xPush bytes) s = .next (s.respond ⟨.done, .none, []⟩) := by
  change execXPush bytes s = _
  simp [execXPush, hl, space_none (.inr (.inl hx)), hx]

theorem execXPush_error {s : State} {bytes : List Byte} (hl : s.x.live = true) (hx : s.x.xstate = .error) :
    exec (.xPush bytes) s = .next (s.respond ⟨.error, s.x.err, []⟩) := by
  change execXPush bytes s = _
  simp [execXPush, hl, space_none (.inr (.inr hx)), hx]

theorem execXFinish_abort {s : State} (hl : s.x.live = true) (hsp : s.x.space? = none)
    (hx : s.x.xstate = .awaitingHeader ∨ s.x.xstate = .suspended) (hb : s.x.outBuf.wf = true) :
    exec .xFinish s = .next (s.raisedX .aborted) := by
  change execXFinish s = _
  rw [← raiseX_spec .aborted hb]
  rcases hx with hx | hx <;> simp [execXFinish, hl, hsp, hx]

theorem execXFinish_complete {s : State} (hl : s.x.live = true) (hx : s.x.xstate = .complete)
    (hb : s.x.outBuf.wf = true) :
    exec .xFinish s = .next (({ s with x := { s.x with outBuf := s.x.outBuf.clear } } : State).respond
      ⟨.done, .none, s.x.outBuf.contents⟩) := by
  change execXFinish s = _
  simp [execXFinish, hl, space_none (.inr (.inl hx)), hx, readBytes_all hb]

theorem execXFinish_error {s : State} (hl : s.x.live = true) (hx : s.x.xstate = .error) :
    exec .xFinish s = .next (s.respond ⟨.error, s.x.err, []⟩) := by
  change execXFinish s = _
  simp [execXFinish, hl, space_none (.inr (.inr hx)), hx]

/-! ### What the host has pushed -/

/-- The unit between two commands, when the host has pushed the bytes `fed` of a stream: the header is still short, or a
token is, or the stream has ended; and whatever follows, the summary of the stream is that of what the unit holds. -/
inductive Fed (cfg : Config) (fed : List Byte) (s : State) : Prop
  | awaiting (params : s.cfg = cfg) (live : s.x.live = true) (state : s.x.xstate = .awaitingHeader)
      (inBufWf : s.x.inBuf.wf = true) (input : s.x.inBuf.contents = fed) (short : fed.length < 4)
      (outBuf : s.x.outBuf = Buffer.new) (delivered : s.delivered = [])
      (tables : s.x.tables = DecodeTables.built cfg.tables) (boundary : s.x.repeatLength = none)
  | suspended (mode : CompressionMode) (dict : DictionarySize) (r : BitReader) (out : List Byte)
      (stands : ExplodeAt cfg mode dict r out s) (state : s.x.xstate = .suspended)
      (starved : nextToken cfg.tables (allTables cfg.tables) mode dict r = .starved)
      (rest : ∀ more, explodeSummary cfg.tables (fed ++ more) = explodeRest cfg.tables mode dict (r.extend more) out)
  | ended (res : List Byte × Status × ErrorCode) (stands : Ended cfg res s)
      (rest : ∀ more, explodeSummary cfg.tables (fed ++ more) = res)

theorem Ended.space {cfg : Config} {res : List Byte × Status × ErrorCode} {s : State} (h : Ended cfg res s) :
    s.x.space? = none := by
  rcases h.state with ⟨hx, -⟩ | ⟨hx, -⟩
  · exact space_none (.inr (.inl hx))
  · exact space_none (.inr (.inr hx))

theorem Fed.params {cfg : Config} {fed : List Byte} {s : State} (h : Fed cfg fed s) : s.cfg = cfg := by
  cases h with
  | awaiting params => exact params
  | suspended _ _ _ _ stands => exact stands.params
  | ended _ stands => exact stands.params

/-- No push is running. -/
theorem Fed.space {cfg : Config} {fed : List Byte} {s : State} (h : Fed cfg fed s) : s.x.space? = none := by
  cases h with
  | awaiting params live state inBufWf input short =>
    rw [space_awaitingHeader live state, if_neg]
    rw [← length_contents inBufWf, input]
    omega
  | suspended _ _ _ _ _ state => exact space_none (.inl state)
  | ended _ stands => exact stands.space

theorem PushStopped.fed {cfg : Config} {mode : CompressionMode} {dict : DictionarySize} {r : BitReader} {out fed : List Byte}
    {t : State} (h : PushStopped cfg mode dict r out t)
    (hrest : ∀ more, explodeSummary cfg.tables (fed ++ more) = explodeRest cfg.tables mode dict (r.extend more) out) :
    Fed cfg fed t := by
  rcases h with ⟨r', out', hat, hsus, hstarved, he⟩ | ⟨res, hend, he⟩
  · exact .suspended mode dict r' out' hat hsus hstarved fun more => (hrest more).trans (he more)
  · exact .ended res hend fun more => (hrest more).trans (he more)

/-- Where the decode of a token part consumed nothing, `commit` changes nothing. -/
theorem commit_self {x : XUnit} (hb : x.inBuf.wf = true) : x.commit x.reader = x := by
  have : x.inBuf.size - x.inBuf.contents.length = 0 := by rw [length_contents hb]; omega
  rw [XUnit.commit, XUnit.reader, this]
  rfl

/-- With 4 bytes or more there, a running push reads the header (R204, R205). -/
theorem step_header {s : State} (hl : s.x.live = true) (hx : s.x.xstate = .awaitingHeader) (hb : s.x.inBuf.wf = true)
    {m d seed next : Byte} {rest : List Byte} (hin : s.x.inBuf.contents = m :: d :: seed :: next :: rest) :
    step s = parseHeader m d seed s := by
  have hsize : 4 ≤ s.x.inBuf.size := by rw [← length_contents hb, hin]; simp
  have hsp : s.x.space? = some .header := by rw [space_awaitingHeader hl hx, if_pos hsize]
  have hdec : decode s.cfg.tables s.x.tables .header s.x.reader = .instr (.header m d seed) s.x.reader := by
    change decodeHeader s.x.reader = _
    have : s.x.reader.input = m :: d :: seed :: next :: rest := hin
    simp only [decodeHeader, this]
  rw [step_of_instr hsp hdec]
  change parseHeader m d seed { s with x := s.x.commit s.x.reader } = _
  rw [commit_self hb]

/-- The unit after a legal header (R205, R24). -/
def State.parsed (s : State) (mode : CompressionMode) (dict : DictionarySize) (seed : Byte) : State :=
  { s with x := { s.x with
    mode := mode, dictBits := dict, bitBuffer := seed.setWidth 16, extraBits := 0
    inBuf := s.x.inBuf.dropStart 3
    tables := if mode = .ascii then s.x.tables.withAscii s.cfg.tables else s.x.tables
    distMask := dict.distMask, window := dict.window, headerParsed := true, xstate := .decoding, needMoreInput := false } }

theorem parseHeader_legal {s : State} {m d seed : Byte} {mode : CompressionMode} {dict : DictionarySize}
    (hx : s.x.xstate = .awaitingHeader) (hs : 4 ≤ s.x.inBuf.size) (hm : CompressionMode.ofByte m = some mode)
    (hd : DictionarySize.ofByte d = some dict) : parseHeader m d seed s = .next (s.parsed mode dict seed) :=
  parseHeader_eq_next.2 ⟨⟨hx, hs⟩, .inr ⟨mode, hm, .inr ⟨dict, hd, rfl⟩⟩⟩

/-- The whole header in one push: an error, or the decode loop from bit 0 of byte 2 on (R205, R302, R303, R310). -/
theorem header_runs {cfg : Config} (hcfg : cfg.legal = true) {s : State} (params : s.cfg = cfg) (live : s.x.live = true)
    (state : s.x.xstate = .awaitingHeader) (inBufWf : s.x.inBuf.wf = true) (outBuf : s.x.outBuf = Buffer.new)
    (delivered : s.delivered = []) (tables : s.x.tables = DecodeTables.built cfg.tables)
    (boundary : s.x.repeatLength = none) (size : 4 ≤ s.x.inBuf.contents.length) :
    ∃ t, Reaches s t ∧ AnsweredOnce s t ∧ Fed cfg s.x.inBuf.contents t := by
  obtain ⟨m, d, seed, next, rest, hin⟩ : ∃ m d seed next rest, s.x.inBuf.contents = m :: d :: seed :: next :: rest := by
    match s.x.inBuf.contents, size with
    | m :: d :: seed :: next :: rest, _ => exact ⟨m, d, seed, next, rest, rfl⟩
  have hk := (config_legal hcfg).2.2
  have hsize : 4 ≤ s.x.inBuf.size := by rwa [← length_contents inBufWf]
  have houtWf : s.x.outBuf.wf = true := by rw [outBuf]; rfl
  have hstep := step_header live state inBufWf hin
  -- an illegal header is raised at once
  have herror : ∀ code, parseHeader m d seed s = .next (s.raisedX code) →
      (∀ more, explodeSummary cfg.tables (s.x.inBuf.contents ++ more) = ([], .error, code)) →
      ∃ t, Reaches s t ∧ AnsweredOnce s t ∧ Fed cfg s.x.inBuf.contents t := fun code hp hsum => by
    refine ⟨_, reaches_of_step (hstep.trans hp), ⟨rfl, by simp [State.raisedX]⟩, .ended _ ?_ hsum⟩
    refine ⟨params, live, wf_clear houtWf, ?_, .inr ⟨rfl, contents_clear _, rfl⟩⟩
    have hempty : s.x.outBuf.contents = [] := by rw [outBuf]; rfl
    rw [State.output, State.raisedX, delivered_respond, respond_x, contents_clear, List.append_nil, hempty]
    exact (List.append_nil _).trans delivered
  rw [hin] at herror
  cases hm : CompressionMode.ofByte m with
  | none =>
    rw [hin]
    exact herror _ (parseHeader_eq_next.2 ⟨⟨state, hsize⟩, .inl ⟨hm, raiseX_spec _ houtWf⟩⟩)
      fun more => explodeSummary_mode _ hm
  | some mode =>
    cases hd : DictionarySize.ofByte d with
    | none =>
      rw [hin]
      exact herror _ (parseHeader_eq_next.2 ⟨⟨state, hsize⟩, .inr ⟨mode, hm, .inl ⟨hd, raiseX_spec _ houtWf⟩⟩⟩)
        fun more => explodeSummary_dict _ hm hd
    | some dict =>
      have hnext := hstep.trans (parseHeader_legal state hsize hm hd)
      have hat : ExplodeAt cfg mode dict (seedReader seed (next :: rest)) [] (s.parsed mode dict seed) :=
        { params := params, live := live, modeIs := rfl, dictIs := rfl, maskIs := rfl
          tables := by
            rw [← params, State.parsed, tables, ← params]
            cases mode with
            | binary => simp [DecodeTables.ready, DecodeTables.built]
            | ascii => exact allTables_ready _ _
          boundary := boundary
          reader := by
            rw [XUnit.reader, State.parsed, contents_dropStart inBufWf, hin]
            rfl
          readerWf := seedReader_wf _ _, inBufWf := wf_dropStart inBufWf 3, outBufWf := houtWf
          output := by
            rw [State.output, State.parsed, outBuf]
            exact (List.append_nil _).trans delivered
          history := by simp }
      obtain ⟨t, hreach, hans, hstop⟩ := push_runs hcfg _ (Nat.le_refl _) hat rfl
      refine ⟨t, (reaches_of_step hnext).trans hreach, ⟨hans.host, hans.responses⟩, ?_⟩
      rw [hin]
      exact hstop.fed fun more => by
        rw [seedReader_extend]
        exact explodeSummary_tokens hk hm hd

/-- An `X.PUSH` of the host: one answer, and the unit has been fed its bytes (R203, R204, R214, R217). -/
theorem fed_push {cfg : Config} (hcfg : cfg.legal = true) {fed bytes : List Byte} {s : State} {rest : List HostCommand}
    (h : Fed cfg fed s) (hh : s.host = ⟨1, bytes⟩ :: rest) :
    ∃ t, Reaches s t ∧ t.host = rest ∧ t.responses.length = s.responses.length + 1 ∧ Fed cfg (fed ++ bytes) t := by
  have hcmd := step_of_command (i := .xPush bytes) h.space hh rfl
  cases h with
  | awaiting params live state inBufWf input short outBuf delivered tables boundary =>
    have hsize : s.x.inBuf.size < 4 := by rwa [← length_contents inBufWf, input]
    rw [execXPush_awaitingHeader (s := { s with host := rest }) live state hsize] at hcmd
    have hcon := contents_append inBufWf bytes
    have hwf := wf_append inBufWf bytes
    rw [input] at hcon
    dsimp only at hcmd
    rw [← length_contents hwf, hcon] at hcmd
    by_cases hlt : (fed ++ bytes).length < 4
    · rw [if_pos hlt] at hcmd
      exact ⟨_, reaches_of_step hcmd, rfl, by simp,
        .awaiting params live state hwf hcon hlt outBuf (by rw [delivered_respond]; exact (List.append_nil _).trans delivered)
          tables boundary⟩
    · rw [if_neg hlt] at hcmd
      obtain ⟨t, hreach, hans, hfed⟩ := header_runs (s :=
        { s with host := rest, x := { s.x with inBuf := s.x.inBuf.append bytes } }) hcfg params live state hwf outBuf
          delivered tables boundary (by rw [hcon]; omega)
      refine ⟨t, (reaches_of_step hcmd).trans hreach, hans.host, hans.responses, ?_⟩
      rwa [show (s.x.inBuf.append bytes).contents = _ from hcon] at hfed
  | suspended mode dict r out stands state starved hrest =>
    rw [execXPush_suspended (s := { s with host := rest }) stands.live state] at hcmd
    have hat : ExplodeAt cfg mode dict (r.extend bytes) out { s with host := rest, x := { s.x with
        inBuf := s.x.inBuf.append bytes, xstate := .decoding, needMoreInput := false } } :=
      { params := stands.params, live := stands.live, modeIs := stands.modeIs, dictIs := stands.dictIs
        maskIs := stands.maskIs, tables := stands.tables, boundary := stands.boundary
        reader := by
          rw [XUnit.reader, contents_append stands.inBufWf, ← stands.reader]
          rfl
        readerWf := stands.readerWf, inBufWf := wf_append stands.inBufWf bytes, outBufWf := stands.outBufWf
        output := stands.output, history := stands.history }
    obtain ⟨t, hreach, hans, hstop⟩ := push_runs hcfg _ (Nat.le_refl _) hat rfl
    refine ⟨t, (reaches_of_step hcmd).trans hreach, hans.host, hans.responses, hstop.fed fun more => ?_⟩
    rw [List.append_assoc, hrest, BitReader.extend_extend]
  | ended res stands hrest =>
    have hkeep : ∀ r : Response, r.out = [] → Ended cfg res (({ s with host := rest } : State).respond r) := fun r hr =>
      { params := stands.params, live := stands.live, outBufWf := stands.outBufWf
        output := by
          rw [← stands.output, State.output, delivered_respond, hr, List.append_nil]
          rfl
        state := stands.state }
    rcases stands.state with ⟨hx, -⟩ | ⟨hx, -⟩
    · rw [execXPush_complete (s := { s with host := rest }) stands.live hx] at hcmd
      exact ⟨_, reaches_of_step hcmd, rfl, by simp, .ended res (hkeep _ rfl) fun more => by rw [List.append_assoc, hrest]⟩
    · rw [execXPush_error (s := { s with host := rest }) stands.live hx] at hcmd
      exact ⟨_, reaches_of_step hcmd, rfl, by simp, .ended res (hkeep _ rfl) fun more => by rw [List.append_assoc, hrest]⟩

/-- The pushes of a session, one after the other. -/
theorem fed_pushes {cfg : Config} (hcfg : cfg.legal = true) {rest : List HostCommand} (chunks : List (List Byte))
    {fed : List Byte} {s : State} (h : Fed cfg fed s) (hh : s.host = chunks.map (fun c => ⟨1, c⟩) ++ rest) :
    ∃ t, Reaches s t ∧ t.host = rest ∧ t.responses.length = s.responses.length + chunks.length ∧
      Fed cfg (fed ++ chunks.flatten) t := by
  induction chunks generalizing fed s with
  | nil => exact ⟨s, reaches_refl s, hh, rfl, by rwa [List.flatten_nil, List.append_nil]⟩
  | cons c chunks ih =>
    obtain ⟨t₁, hreach₁, hhost₁, hresp₁, hfed₁⟩ := fed_push hcfg h hh
    obtain ⟨t, hreach, hhost, hresp, hfed⟩ := ih hfed₁ hhost₁
    refine ⟨t, hreach₁.trans hreach, hhost, ?_, ?_⟩
    · rw [hresp, hresp₁, List.length_cons]; omega
    · rwa [List.flatten_cons, ← List.append_assoc]

/-- What the summary says of a stream that ends here. -/
theorem summary_of_starved {k : CodeTables} (hk : k.legal = true) {mode : CompressionMode} {dict : DictionarySize}
    {r : BitReader} {fed out : List Byte} (hr : r.wf = true)
    (hs : nextToken k (allTables k) mode dict r = .starved)
    (hrest : ∀ more, explodeSummary k (fed ++ more) = explodeRest k mode dict (r.extend more) out) :
    explodeSummary k fed = (out, .error, .aborted) := by
  have := hrest []
  rw [List.append_nil, BitReader.extend_nil] at this
  rw [this, explodeRest_eq hk hr, hs]

/-- `X.FINISH` of the host: the last answer is the summary's, and everything has been handed out (R215, R216, R217). -/
theorem fed_finish {cfg : Config} (hcfg : cfg.legal = true) {fed : List Byte} {s : State} {rest : List HostCommand}
    (h : Fed cfg fed s) (hh : s.host = ⟨2, []⟩ :: rest) :
    ∃ t last, step s = .next t ∧ t.x.space? = none ∧ t.host = rest ∧ t.responses = s.responses ++ [last] ∧
      t.delivered = (explodeSummary cfg.tables fed).1 ∧ (last.status, last.err) = (explodeSummary cfg.tables fed).2 := by
  have hcmd := step_of_command (i := .xFinish) h.space hh rfl
  have hspace := h.space
  have hk := (config_legal hcfg).2.2
  cases h with
  | awaiting params live state inBufWf input short outBuf delivered tables boundary =>
    rw [execXFinish_abort (s := { s with host := rest }) live hspace (.inl state) (by simp only [outBuf]; rfl)] at hcmd
    rw [explodeSummary_short _ short]
    refine ⟨_, _, hcmd, space_none (.inr (.inr rfl)), rfl, rfl, ?_, rfl⟩
    rw [State.raisedX, delivered_respond]
    simp only [outBuf]
    exact (List.append_nil _).trans delivered
  | suspended mode dict r out stands state starved hrest =>
    rw [execXFinish_abort (s := { s with host := rest }) stands.live hspace (.inr state) stands.outBufWf] at hcmd
    rw [summary_of_starved hk stands.readerWf starved hrest]
    refine ⟨_, _, hcmd, space_none (.inr (.inr rfl)), rfl, rfl, ?_, rfl⟩
    rw [State.raisedX, delivered_respond, ← stands.output]
    rfl
  | ended res stands hrest =>
    have hsum : explodeSummary cfg.tables fed = res := by rw [← List.append_nil fed, hrest]
    rw [hsum]
    rcases stands.state with ⟨hx, hres⟩ | ⟨hx, hempty, hres⟩
    · rw [execXFinish_complete (s := { s with host := rest }) stands.live hx stands.outBufWf] at hcmd
      refine ⟨_, _, hcmd, space_none (.inr (.inl hx)), rfl, rfl, ?_, hres.symm⟩
      rw [delivered_respond, ← stands.output]
      rfl
    · rw [execXFinish_error (s := { s with host := rest }) stands.live hx] at hcmd
      refine ⟨_, _, hcmd, space_none (.inr (.inr hx)), rfl, rfl, ?_, hres.symm⟩
      rw [delivered_respond, ← stands.output, State.output, hempty]
      rfl

/-- After the block's reset no push is running. -/
theorem space_resetWith (cfg : Config) : (State.resetWith cfg).x.space? = none := by
  unfold XUnit.space?
  split
  · rfl
  · rfl

/-- `X.RESET` of the host begins a stream (R201, R47). -/
theorem fed_reset {cfg : Config} (hcfg : cfg.legal = true) (commands : List HostCommand) :
    ∃ t, step { State.resetWith cfg with host := ⟨0, []⟩ :: commands } = .next t ∧ t.host = commands ∧
      t.responses.length = 1 ∧ Fed cfg [] t := by
  have hlegal : ({ State.resetWith cfg with host := commands } : State).cfg.tables.legal = true := (config_legal hcfg).2.2
  have hcmd := step_of_command (s := { State.resetWith cfg with host := ⟨0, []⟩ :: commands }) (i := .xReset)
    (space_resetWith cfg) rfl rfl
  refine ⟨_, hcmd.trans (withLegalTables_eq_next.2 ⟨hlegal, rfl⟩), rfl, rfl, ?_⟩
  exact .awaiting rfl rfl rfl rfl rfl (by decide) rfl rfl rfl rfl

/-- A session with the EXPLODE unit computes the summary of the bytes pushed (R18, R218). -/
theorem answers_explodeSession {cfg : Config} (hcfg : cfg.legal = true) (chunks : List (List Byte)) :
    Answers cfg (explodeSession chunks) (explodeSummary cfg.tables chunks.flatten).1
      (explodeSummary cfg.tables chunks.flatten).2.1 (explodeSummary cfg.tables chunks.flatten).2.2 := by
  obtain ⟨t₀, hstep₀, hhost₀, hresp₀, hfed₀⟩ := fed_reset hcfg (chunks.map (fun c => ⟨1, c⟩) ++ [⟨2, []⟩])
  obtain ⟨t₁, hreach₁, hhost₁, hresp₁, hfed₁⟩ := fed_pushes hcfg chunks hfed₀ hhost₀
  rw [List.nil_append] at hfed₁
  obtain ⟨t, last, hstep, hspace, hhost, hresp, hout, hlast⟩ := fed_finish hcfg hfed₁ hhost₁
  obtain ⟨n, hn⟩ := ((reaches_of_step hstep₀).trans hreach₁).trans (reaches_of_step hstep)
  refine ⟨n, t, hn, fetch_idle hspace hhost, ?_, hout, ?_⟩
  · rw [hresp, List.length_append, hresp₁, hresp₀]
    simp [explodeSession]
    omega
  · rw [hresp, List.getLast?_append]
    exact congrArg some hlast

/-- Settles O56: the simulation of the session by the summary, chunk by chunk (`fed_pushes`). -/
theorem explodeChunks : Obligations.ExplodeChunks := fun _ chunks hcfg => answers_explodeSession hcfg chunks

/-- Settles O57: by O56 on the summaries of the streams themselves, where a shorter stream gives the same or is aborted
with the beginning of the output (`explodeSummary_append`). -/
theorem shortStream : Obligations.ShortStream := by
  intro cfg hcfg
  have hk := (config_legal hcfg).2.2
  refine ⟨fun chunks hlen => ?_, fun stream out hdone hlast cut hcut hne => ?_⟩
  · have h := answers_explodeSession hcfg chunks
    rwa [explodeSummary_short _ hlen] at h
  · obtain ⟨more, rfl⟩ := hcut
    have hmore : more ≠ [] := fun h => hne (by rw [h, List.append_nil])
    -- the cut does not complete: with the bytes up to the last one the stream would complete too early
    have hcutDone : explodeSummary cfg.tables cut ≠ (out, .done, .none) := fun h => by
      rw [List.dropLast_append_of_ne_nil hmore] at hlast
      rcases explodeSummary_append hk cut more.dropLast with he | ⟨he, -⟩
      · rw [← he, h] at hlast
        exact hlast rfl
      · rw [h] at he
        cases he
    rcases explodeSummary_append hk cut more with he | ⟨he, hpre⟩
    · exact absurd (he.trans hdone) hcutDone
    · rw [hdone] at hpre
      refine ⟨(explodeSummary cfg.tables cut).1, Prod.ext rfl he, hpre, fun chunks hchunks => ?_⟩
      have h := answers_explodeSession hcfg chunks
      rwa [hchunks, he] at h

theorem compressionMode_ofByte_eq_none {b : Byte} (h0 : b ≠ 0) (h1 : b ≠ 1) : CompressionMode.ofByte b = none := by
  rw [CompressionMode.ofByte, if_neg h0, if_neg h1]

theorem compressionMode_ofByte_isSome {b : Byte} (h : b = 0 ∨ b = 1) : ∃ mode, CompressionMode.ofByte b = some mode := by
  rcases h with rfl | rfl
  · exact ⟨.binary, rfl⟩
  · exact ⟨.ascii, rfl⟩

theorem dictionarySize_ofByte_eq_none {b : Byte} (h4 : b ≠ 4) (h5 : b ≠ 5) (h6 : b ≠ 6) :
    DictionarySize.ofByte b = none := by
  rw [DictionarySize.ofByte, if_neg h4, if_neg h5, if_neg h6]

/-- Settles O58: by O56, the summary of such a stream being the header's error. -/
theorem headerRejection : Obligations.HeaderRejection := by
  intro cfg chunks b0 b1 b2 b3 rest hcfg hchunks
  have h := answers_explodeSession hcfg chunks
  rw [hchunks] at h
  refine ⟨fun h0 h1 => ?_, fun h01 h4 h5 h6 => ?_⟩
  · rwa [explodeSummary_mode _ (compressionMode_ofByte_eq_none h0 h1)] at h
  · obtain ⟨mode, hm⟩ := compressionMode_ofByte_isSome h01
    rwa [explodeSummary_dict _ hm (dictionarySize_ofByte_eq_none h4 h5 h6)] at h

end Sys2Proof.Machine
end

section
/-! SUPPORT. The encode tables hold the encodings (44_implode_match.md rules R232 to R234), and every length has its code (R119). -/

namespace Sys2Proof.Machine

/-! ### The encode tables -/

theorem getElem?_flatMap_range {α : Type} (f : Nat → List α) {n c e : Nat} (hc : c < n) (he : e < (f c).length) :
    ((List.range n).flatMap f)[((List.range c).flatMap f).length + e]? = (f c)[e]? := by
  induction n with
  | zero => exact absurd hc (Nat.not_lt_zero c)
  | succ n ih =>
    rw [List.range_succ, List.flatMap_append, List.flatMap_singleton]
    rcases Nat.lt_or_eq_of_le (Nat.le_of_lt_succ hc) with h | rfl
    · have := ih h
      rw [List.getElem?_eq_getElem he] at this ⊢
      rw [List.getElem?_append_left (List.getElem?_eq_some_iff.1 this).1, this]
    · rw [List.getElem?_append_right (Nat.le_add_right ..), Nat.add_sub_cancel_left]

/-- A table that gives each length code as many entries as it has values of extra bits has those of code `c` from
`LenBase[c]` on (R234, R119 item 4). -/
theorem getElem?_lengthFamily {α : Type} {k : CodeTables} (hk : k.legal = true) (f : Nat → List α)
    (hf : ∀ c, (f c).length = 2 ^ k.exLenBits.getD c 0) {c e : Nat} (hc : c < 16) (he : e < 2 ^ k.exLenBits.getD c 0) :
    ((List.range 16).flatMap f)[k.lenBase.getD c 0 + e]? = (f c)[e]? := by
  have hlen : ((List.range c).flatMap f).length = k.lenBase.getD c 0 := by
    clear he
    induction c with
    | zero => exact ((legal_ends hk).2.2.1).symm
    | succ c ih =>
      have hs := legal_lenBase_succ hk (c := c) (by omega)
      rw [if_neg (by omega)] at hs
      rw [List.range_succ, List.flatMap_append, List.length_append, ih (by omega), List.flatMap_singleton, hf, hs]
  rw [← hlen]
  exact getElem?_flatMap_range f hc (by rwa [hf])

/-- The pattern of a length part or END, as the encode tables build it (R234, R107). -/
theorem lengthFamily_code {k : CodeTables} (hk : k.legal = true) (c e : Nat) :
    (e <<< (k.lenBits.getD c 0 + 1)) ||| (k.lenCode.getD c 0 <<< 1) ||| 1 = (lengthCode k c e).bits := by
  have hc := (legal_code_lt hk c).1
  have hlow : k.lenCode.getD c 0 <<< 1 ||| 1 = 1 + k.lenCode.getD c 0 <<< 1 := by
    rw [← Nat.shiftLeft_add_eq_or_of_lt (by decide : 1 < 2 ^ 1), Nat.add_comm]
  have hfit : 1 + k.lenCode.getD c 0 <<< 1 < 2 ^ (k.lenBits.getD c 0 + 1) := by
    rw [Nat.shiftLeft_eq, Nat.pow_succ]
    omega
  rw [Nat.or_assoc, hlow, ← Nat.shiftLeft_add_eq_or_of_lt hfit]
  simp only [lengthCode]
  rw [Nat.add_comm (k.lenBits.getD c 0) 1]
  omega

theorem length_binaryCodes (n code : Nat) : (binaryCodes n code).length = n := by
  induction n generalizing code with
  | zero => rfl
  | succ n ih => simp [binaryCodes, ih]

theorem getElem?_binaryCodes {n code i : Nat} (hi : i < n) (h : code + 2 * n ≤ 2 ^ 16) :
    (binaryCodes n code)[i]? = some (code + 2 * i) := by
  induction n generalizing code i with
  | zero => exact absurd hi (Nat.not_lt_zero i)
  | succ n ih =>
    cases i with
    | zero => rfl
    | succ i =>
      rw [binaryCodes, List.getElem?_cons_succ, lowbits, Nat.mod_eq_of_lt (by omega), ih (by omega) (by omega)]
      congr 1
      omega

/-- The first 256 entries are the literals' (R232 to R234). -/
theorem encodeTables_split {k : CodeTables} (hk : k.legal = true) (mode : CompressionMode) :
    (∃ l : List Nat, l.length = 256 ∧ literalBitsTable k mode = l ++ lengthFamilyBits k) ∧
    ∃ l : List Nat, l.length = 256 ∧ literalCodesTable k mode = l ++ lengthFamilyCodes k := by
  obtain ⟨-, -, -, -, -, -, h1, h2⟩ := legal_sized hk
  cases mode with
  | binary => exact ⟨⟨_, List.length_replicate, rfl⟩, _, length_binaryCodes 256 0, rfl⟩
  | ascii => exact ⟨⟨_, (List.length_map _).trans h1, rfl⟩, _, (List.length_map _).trans h2, rfl⟩

/-- The encode tables hold the encoding of each literal at its byte (R232, R233). -/
theorem encodeTables_literal {k : CodeTables} (hk : k.legal = true) (mode : CompressionMode) (dict : DictionarySize)
    (b : Byte) :
    (literalBitsTable k mode)[b.toNat]? = some ((Token.literal b).code k mode dict).width ∧
    (literalCodesTable k mode)[b.toNat]? = some ((Token.literal b).code k mode dict).bits := by
  obtain ⟨-, -, -, -, -, -, h1, h2⟩ := legal_sized hk
  have hb := b.isLt
  cases mode with
  | binary =>
    constructor
    · rw [literalBitsTable, List.getElem?_append_left (by rwa [List.length_replicate]), List.getElem?_replicate, if_pos hb]
      rfl
    · rw [literalCodesTable, List.getElem?_append_left (by rwa [length_binaryCodes]), getElem?_binaryCodes hb (by decide)]
      simp [Token.code, encode_litB, Nat.shiftLeft_eq, Nat.mul_comm]
  | ascii =>
    have hb1 : b.toNat < k.chBitsAsc.length := h1 ▸ hb
    have hb2 : b.toNat < k.chCodeAsc.length := h2 ▸ hb
    constructor
    · rw [literalBitsTable, List.getElem?_append_left (by rwa [List.length_map]), List.getElem?_map,
        List.getElem?_eq_getElem hb1]
      simp [Token.code, encode_asciiLiteral, hb1, Nat.add_comm]
    · rw [literalCodesTable, List.getElem?_append_left (by rwa [List.length_map]), List.getElem?_map,
        List.getElem?_eq_getElem hb2]
      simp [Token.code, encode_asciiLiteral, hb2, Nat.shiftLeft_eq]

/-- The encode tables hold the encoding of each length part, and of END, at its token number (R232, R234). -/
theorem encodeTables_length {k : CodeTables} (hk : k.legal = true) (mode : CompressionMode) {c e : Nat} (hc : c < 16)
    (he : e < 2 ^ k.exLenBits.getD c 0) :
    (literalBitsTable k mode)[lengthToken k c e]? = some (lengthCode k c e).width ∧
    (literalCodesTable k mode)[lengthToken k c e]? = some (lengthCode k c e).bits := by
  obtain ⟨⟨l, h1, hl⟩, l', h2, hl'⟩ := encodeTables_split hk mode
  have hidx : lengthToken k c e = 256 + (k.lenBase.getD c 0 + e) := by rw [lengthToken]; omega
  rw [hidx]
  constructor
  · rw [hl, List.getElem?_append_right (by rw [h1]; omega), h1, Nat.add_sub_cancel_left, lengthFamilyBits,
      getElem?_lengthFamily hk _ (fun c => List.length_replicate) hc he, List.getElem?_replicate, if_pos he]
    rfl
  · rw [hl', List.getElem?_append_right (by rw [h2]; omega), h2, Nat.add_sub_cancel_left,
      lengthFamilyCodes, getElem?_lengthFamily hk _ (fun c => by rw [List.length_map, List.length_range]) hc he,
      List.getElem?_map, List.getElem?_range he, Option.map_some, lengthFamily_code hk]

/-! ### The length code of a match -/

/-- Every length has its code (R119 item 4). -/
theorem exists_lengthCode {k : CodeTables} (hk : k.legal = true) {v : Nat} (hv : v < 0x206) :
    ∃ c < 16, k.lenBase.getD c 0 ≤ v ∧ v < k.lenBase.getD c 0 + 2 ^ k.exLenBits.getD c 0 := by
  have below : ∀ n < 16, v < k.lenBase.getD n 0 →
      ∃ c < 16, k.lenBase.getD c 0 ≤ v ∧ v < k.lenBase.getD c 0 + 2 ^ k.exLenBits.getD c 0 := by
    intro n
    induction n with
    | zero =>
      intro _ h
      rw [(legal_ends hk).2.2.1] at h
      omega
    | succ n ih =>
      intro hn h
      have hs := legal_lenBase_succ hk (c := n) (by omega)
      rw [if_neg (by omega)] at hs
      rcases Nat.lt_or_ge v (k.lenBase.getD n 0) with hlt | hge
      · exact ih (by omega) hlt
      · exact ⟨n, by omega, hge, by omega⟩
  have hs := legal_lenBase_succ hk (c := 15) (by decide)
  rw [if_pos rfl] at hs
  rcases Nat.lt_or_ge v (k.lenBase.getD 15 0) with hlt | hge
  · exact below 15 (by decide) hlt
  · exact ⟨15, by decide, hge, by omega⟩

/-- The length code of a match is the one whose family holds its length (R107, R110). -/
theorem lengthCodeOf_spec {k : CodeTables} (hk : k.legal = true) {size : Nat} (h2 : 2 ≤ size) (hs : size ≤ 0x204) :
    lengthCodeOf k size < 16 ∧ k.lenBase.getD (lengthCodeOf k size) 0 ≤ size - 2 ∧
      size - 2 - k.lenBase.getD (lengthCodeOf k size) 0 < 2 ^ k.exLenBits.getD (lengthCodeOf k size) 0 := by
  obtain ⟨c, hc, hle, hlt⟩ := exists_lengthCode hk (show size - 2 < 0x206 by omega)
  unfold lengthCodeOf
  cases hf : (List.range 16).find? fun c =>
      decide (k.lenBase.getD c 0 ≤ size - 2) && decide (size - 2 < k.lenBase.getD c 0 + 2 ^ k.exLenBits.getD c 0) with
  | none =>
    have := List.find?_eq_none.1 hf c (List.mem_range.2 hc)
    simp only [Bool.and_eq_true, decide_eq_true_eq] at this
    exact absurd ⟨hle, hlt⟩ this
  | some c' =>
    have hmem := List.mem_range.1 (List.mem_of_find?_eq_some hf)
    have := List.find?_some hf
    simp only [Bool.and_eq_true, decide_eq_true_eq] at this
    rw [Option.getD_some]
    exact ⟨hmem, this.1, by omega⟩

end Sys2Proof.Machine
end

section
/-! SUPPORT. The bit packer (45_implode_emit.md rule R252): `outputBits` writes its code's bits above those written before. -/

namespace Sys2Proof

theorem bytesToNat_append (s t : List Byte) : bytesToNat (s ++ t) = bytesToNat s + bytesToNat t * 2 ^ (8 * s.length) := by
  induction s with
  | nil => simp [bytesToNat]
  | cons b s ih =>
    rw [List.cons_append, bytesToNat, bytesToNat, ih, List.length_cons, Nat.mul_add, Nat.mul_add 8, Nat.pow_add]
    ring

namespace Machine

/-! ### The bit packer -/

/-- `j` is `i` after the bits of `code` were written: only `outBuf` and `outBits` change, and the bits stand right above
those written before (R252). -/
structure IUnit.Writes (i : IUnit) (code : Code) (j : IUnit) : Prop where
  eq : j = { i with outBuf := j.outBuf, outBits := j.outBits }
  outBufWf : j.outBuf.wf = true
  packed : j.Packed
  position : j.position = i.position + code.width
  bits : bytesToNat j.outBuf.contents = bytesToNat i.outBuf.contents + code.bits <<< i.position

theorem IUnit.Writes.trans {i j l : IUnit} {a b : Code} (h : i.Writes a j) (h' : j.Writes b l) :
    i.Writes (a.followedBy b) l where
  eq := by
    rw [h'.eq]
    conv_lhs => rw [h.eq]
  outBufWf := h'.outBufWf
  packed := h'.packed
  position := by rw [h'.position, h.position, Code.followedBy_width, Nat.add_assoc]
  bits := by
    rw [h'.bits, h.bits, h.position, Code.followedBy_bits]
    simp only [Nat.shiftLeft_eq, Nat.pow_add]
    ring

/-- The byte being filled and the bytes before it (R39). -/
theorem packed_split {i : IUnit} (hb : i.outBuf.wf = true) (hp : i.Packed) :
    ∃ done last, i.outBuf.contents = done ++ [last] ∧ last.toNat < 2 ^ i.outBits.toNat ∧ i.outBuf.size = done.length + 1 ∧
      i.position = 8 * done.length + i.outBits.toNat := by
  obtain ⟨last, hlast, hlt⟩ := hp
  obtain ⟨done, hdone⟩ := List.getLast?_eq_some_iff.1 hlast
  have hs := length_contents hb
  rw [hdone, List.length_append, List.length_singleton] at hs
  exact ⟨done, last, hdone, hlt, hs.symm, by rw [IUnit.position, ← hs, Nat.add_sub_cancel]⟩

/-- The bits of a code above those of a byte: what fits the byte, and what the next one takes (R252). -/
theorem patched_byte {last : Byte} {o n code : Nat} (ho : o < 8) (hn : n ≤ 8) (hlast : last.toNat < 2 ^ o)
    (hcode : code < 2 ^ n) :
    (last ||| BitVec.ofNat 8 (code <<< o)).toNat + 2 ^ 8 * (BitVec.ofNat 8 (code >>> (8 - o))).toNat =
      last.toNat + code <<< o := by
  have h8 : (2 : Nat) ^ 8 = 2 ^ (8 - o) * 2 ^ o := by rw [← Nat.pow_add]; congr 1; omega
  have hlow : code <<< o % 2 ^ 8 = (code % 2 ^ (8 - o)) <<< o := by
    rw [Nat.shiftLeft_eq, Nat.shiftLeft_eq, h8, Nat.mul_mod_mul_right]
  have hc8 : code < 2 ^ 8 := Nat.lt_of_lt_of_le hcode (Nat.pow_le_pow_right (by decide) hn)
  have hhigh : code >>> (8 - o) % 2 ^ 8 = code / 2 ^ (8 - o) := by
    rw [Nat.shiftRight_eq_div_pow, Nat.mod_eq_of_lt (Nat.lt_of_le_of_lt (Nat.div_le_self ..) hc8)]
  rw [BitVec.toNat_or, BitVec.toNat_ofNat, BitVec.toNat_ofNat, hlow, hhigh, Nat.or_comm,
    ← Nat.shiftLeft_add_eq_or_of_lt hlast, Nat.shiftLeft_eq, Nat.shiftLeft_eq]
  have := Nat.div_add_mod code (2 ^ (8 - o))
  calc code % 2 ^ (8 - o) * 2 ^ o + last.toNat + 2 ^ 8 * (code / 2 ^ (8 - o))
      = last.toNat + (2 ^ (8 - o) * (code / 2 ^ (8 - o)) + code % 2 ^ (8 - o)) * 2 ^ o := by rw [h8]; ring
    _ = last.toNat + code * 2 ^ o := by rw [this]

/-- New contents that hold the old bits and those of a code above them. -/
theorem writes_of_contents {i : IUnit} {code : Code} {done s : List Byte} {last v : Byte} {b : Buffer} {bits : BitVec 3}
    (hcon : i.outBuf.contents = done ++ [last]) (hpos : i.position = 8 * done.length + i.outBits.toNat) (hb : b.wf = true)
    (hbcon : b.contents = done ++ v :: s)
    (hvalue : v.toNat + 2 ^ 8 * bytesToNat s = last.toNat + code.bits <<< i.outBits.toNat)
    (hlast : ∃ w, (v :: s).getLast? = some w ∧ w.toNat < 2 ^ bits.toNat)
    (hbits : 8 * s.length + bits.toNat = i.outBits.toNat + code.width) :
    i.Writes code { i with outBuf := b, outBits := bits } where
  eq := rfl
  outBufWf := hb
  packed := by
    obtain ⟨w, hw, hlt⟩ := hlast
    refine ⟨w, ?_, hlt⟩
    rw [show b.contents = done ++ v :: s from hbcon, List.getLast?_append, hw]
    rfl
  position := by
    have hs := length_contents hb
    rw [hbcon, List.length_append, List.length_cons] at hs
    rw [hpos]
    simp only [IUnit.position, ← hs]
    omega
  bits := by
    simp only [hbcon, hcon, hpos, bytesToNat_append, bytesToNat, hvalue]
    simp only [Nat.shiftLeft_eq, Nat.pow_add]
    ring

/-- `outputBits` of at most 8 bits (R252). -/
theorem outputByte_writes {i : IUnit} {n code : Nat} (hb : i.outBuf.wf = true) (hp : i.Packed) (hn : 1 ≤ n) (hn8 : n ≤ 8)
    (hcode : code < 2 ^ n) : ∃ j, outputByte n code i = .next j ∧ i.Writes ⟨n, code⟩ j := by
  obtain ⟨done, last, hcon, hlast, hsize, hpos⟩ := packed_split hb hp
  have ho := i.outBits.isLt
  have hread : i.outBuf.readByte (i.outBuf.size - 1) = .next last := by
    refine readByte_eq hb ?_
    rw [hcon, hsize, Nat.add_sub_cancel, List.getElem?_concat_length]
  obtain ⟨b, hset, hbcon, hbwf, -, -, -⟩ :=
    setByte_last hb (by omega) (last ||| BitVec.ofNat 8 (code <<< i.outBits.toNat))
  rw [hcon, hsize, Nat.add_sub_cancel, List.set_append_right _ _ (Nat.le_refl _), Nat.sub_self] at hbcon
  simp only [List.set_cons_zero] at hbcon
  have hpatch := patched_byte ho hn8 hlast hcode
  refine ⟨_, outputByte_eq_next.2 ⟨by omega, last, b, hread, hset, rfl⟩, ?_⟩
  generalize last ||| BitVec.ofNat 8 (code <<< i.outBits.toNat) = v at hbcon hpatch
  have hcode8 : code >>> (8 - i.outBits.toNat) < 2 ^ 8 := by
    rw [Nat.shiftRight_eq_div_pow]
    have := Nat.pow_le_pow_right (n := 2) (by decide) hn8
    exact Nat.lt_of_le_of_lt (Nat.div_le_self ..) (by omega)
  have hbits : (BitVec.ofNat 3 (i.outBits.toNat + n)).toNat = (i.outBits.toNat + n) % 8 := BitVec.toNat_ofNat ..
  rw [BitVec.toNat_ofNat, Nat.mod_eq_of_lt hcode8] at hpatch
  by_cases hover : 8 < i.outBits.toNat + n
  · -- the code spills into a new byte
    rw [if_pos hover]
    obtain ⟨w, hw, hwval⟩ : ∃ w : Byte, BitVec.ofNat 8 (code >>> (8 - i.outBits.toNat)) = w ∧
        w.toNat = code >>> (8 - i.outBits.toNat) := ⟨_, rfl, by rw [BitVec.toNat_ofNat, Nat.mod_eq_of_lt hcode8]⟩
    rw [hw]
    refine writes_of_contents (s := [w]) hcon hpos (wf_append hbwf _)
      (by rw [contents_append hbwf, hbcon, List.append_assoc]; rfl) ?_ ⟨w, rfl, ?_⟩ ?_
    · rw [← hwval] at hpatch
      exact hpatch
    · rw [hwval, hbits, Nat.shiftRight_eq_div_pow]
      apply Nat.div_lt_of_lt_mul
      rwa [← Nat.pow_add, show 8 - i.outBits.toNat + (i.outBits.toNat + n) % 8 = n by omega]
    · rw [hbits, List.length_singleton]
      dsimp only
      omega
  · -- it fits the byte being filled
    have hzero : code >>> (8 - i.outBits.toNat) = 0 := by
      rw [Nat.shiftRight_eq_div_pow]
      exact Nat.div_eq_of_lt (Nat.lt_of_lt_of_le hcode (Nat.pow_le_pow_right (by decide) (by omega)))
    rw [hzero, Nat.mul_zero, Nat.add_zero] at hpatch
    rw [if_neg hover]
    by_cases hfull : i.outBits.toNat + n = 8
    · rw [if_pos (by rw [hfull]; rfl)]
      refine writes_of_contents (s := [0]) hcon hpos (wf_append hbwf _)
        (by rw [contents_append hbwf, hbcon, List.append_assoc]; rfl) hpatch ⟨0, rfl, ?_⟩ ?_
      · rw [hbits, hfull]; decide
      · rw [hbits, hfull]; rfl
    · have hne : BitVec.ofNat 3 (i.outBits.toNat + n) ≠ 0 := fun h => by
        have := congrArg BitVec.toNat h
        rw [hbits] at this
        change _ = 0 at this
        omega
      rw [if_neg hne]
      refine writes_of_contents (s := []) hcon hpos hbwf hbcon hpatch ⟨v, rfl, ?_⟩ ?_
      · rw [hbits, Nat.mod_eq_of_lt (by omega), hpatch, Nat.add_comm last.toNat, Nat.shiftLeft_eq, Nat.pow_add]
        have := Nat.mul_le_mul_right (2 ^ i.outBits.toNat) (Nat.le_of_lt_succ (Nat.succ_lt_succ hcode))
        rw [Nat.succ_mul] at this
        rw [Nat.mul_comm (2 ^ i.outBits.toNat)]
        omega
      · rw [hbits, Nat.mod_eq_of_lt (by omega)]
        simp

/-- `outputBits` writes the bits of a code of up to 16 bits (R252). -/
theorem outputBits_writes {i : IUnit} {n code : Nat} (hb : i.outBuf.wf = true) (hp : i.Packed) (hn : 1 ≤ n)
    (hn16 : n ≤ 16) (hcode : code < 2 ^ n) : ∃ j, outputBits n code i = .next j ∧ i.Writes ⟨n, code⟩ j := by
  rcases Nat.lt_or_ge 8 n with h8 | h8
  · obtain ⟨j, hj, hw⟩ := outputByte_writes (n := 8) (code := lowbits 8 code) hb hp (by decide) (Nat.le_refl 8)
      (Nat.mod_lt _ (by decide))
    have hhigh : code >>> 8 < 2 ^ (n - 8) := by
      rw [Nat.shiftRight_eq_div_pow]
      apply Nat.div_lt_of_lt_mul
      rwa [← Nat.pow_add, show 8 + (n - 8) = n by omega]
    obtain ⟨l, hl, hw'⟩ := outputByte_writes (n := n - 8) (code := code >>> 8) hw.outBufWf hw.packed (by omega) (by omega)
      hhigh
    refine ⟨l, outputBits_eq_next.2 (.inl ⟨h8, j, hj, hl⟩), ?_⟩
    have := hw.trans hw'
    have hsum : (Code.mk 8 (lowbits 8 code)).followedBy ⟨n - 8, code >>> 8⟩ = ⟨n, code⟩ := by
      simp only [Code.followedBy, Nat.shiftLeft_eq, Nat.shiftRight_eq_div_pow, lowbits, Code.mk.injEq]
      omega
    rwa [hsum] at this
  · obtain ⟨j, hj, hw⟩ := outputByte_writes hb hp hn h8 hcode
    exact ⟨j, outputBits_eq_next.2 (.inr ⟨h8, hj⟩), hw⟩

end Machine
end Sys2Proof
end

section
/-! SUPPORT. Emission (R254 to R257): each emitted token writes the bits of its encoding. -/

namespace Sys2Proof.Machine

/-! ### Emission -/

/-- A unit that has only been written to is still encoding. -/
theorem IUnit.Encoding.of_writes {k : CodeTables} {i j : IUnit} {code : Code} (h : i.Encoding k) (hw : i.Writes code j) :
    j.Encoding k := by
  obtain ⟨o, b, rfl⟩ : ∃ o b, j = { i with outBuf := o, outBits := b } := ⟨_, _, hw.eq⟩
  exact
    { live := h.live, packed := hw.packed, tables := h.tables, geometry := h.geometry, cursor := h.cursor
      firstTwo := h.firstTwo, inBufWf := h.inBufWf, outBufWf := hw.outBufWf }

theorem token_literal_code_ascii (k : CodeTables) (dict : DictionarySize) (b : Byte) :
    (Token.literal b).code k .ascii dict = ⟨1 + k.chBitsAsc.getD b.toNat 0, k.chCodeAsc.getD b.toNat 0 <<< 1⟩ :=
  encode_asciiLiteral k (.token .ascii) b

/-- A literal's pattern fits 16 bits (R37). -/
theorem literal_code_fits {k : CodeTables} (hk : k.legal = true) (mode : CompressionMode) (dict : DictionarySize) (b : Byte) :
    1 ≤ ((Token.literal b).code k mode dict).width ∧ ((Token.literal b).code k mode dict).width ≤ 16 ∧
      ((Token.literal b).code k mode dict).bits < 2 ^ ((Token.literal b).code k mode dict).width := by
  cases mode with
  | binary => exact ⟨Nat.le_add_left 1 8, Nat.le_add_right 9 7, encode_fits _ k _ hk (wellFormed_litB k b)⟩
  | ascii =>
    have hw := legal_chBitsAsc hk b.isLt
    refine ⟨?_, ?_, encode_fits _ k _ hk (wellFormed_asciiLiteral k b)⟩ <;> rw [token_literal_code_ascii]
    · exact Nat.le_add_right ..
    · dsimp only; omega

/-- `emitLiteral` writes the literal's encoding (R254, R257). -/
theorem emitLiteral_writes {k : CodeTables} (hk : k.legal = true) {i : IUnit} (hi : i.Encoding k) (dict : DictionarySize)
    (b : Byte) : ∃ j, emitLiteral b i = .next j ∧ i.Writes ((Token.literal b).code k i.mode dict) j := by
  obtain ⟨h1, h16, hlt⟩ := literal_code_fits hk i.mode dict b
  obtain ⟨j, hj, hw⟩ := outputBits_writes hi.outBufWf hi.packed h1 h16 hlt
  obtain ⟨hb, hc⟩ := encodeTables_literal hk i.mode dict b
  refine ⟨j, emitToken_eq_next.2 ⟨_, _, ?_, ?_, hj⟩, hw⟩
  · rw [hi.tables.1, hb]
  · rw [hi.tables.2, hc]

/-- The pattern of a length part, or END, fits 16 bits (R37). -/
theorem lengthCode_fits {k : CodeTables} (hk : k.legal = true) {c e : Nat} (hc : c < 16)
    (he : e < 2 ^ k.exLenBits.getD c 0) :
    1 ≤ (lengthCode k c e).width ∧ (lengthCode k c e).width ≤ 16 ∧
      (lengthCode k c e).bits < 2 ^ (lengthCode k c e).width := by
  have h1 := legal_lenBits hk hc
  have h2 := legal_exLenBits_le hk hc
  obtain ⟨he8, h0⟩ := exLenBits_pow_le hk hc he
  refine ⟨?_, ?_, ?_⟩
  · rw [lengthCode_width]; omega
  · rw [lengthCode_width]; omega
  · rw [← encode_lengthInstr k (.token .binary) hc he8 h0]
    exact encode_fits _ k _ hk (wellFormed_lengthInstr hk .binary hc he)

/-- The emission of a length token, or END, writes its encoding (R251, R257). -/
theorem emitToken_length_writes {k : CodeTables} (hk : k.legal = true) {i : IUnit} (hi : i.Encoding k) {c e : Nat}
    (hc : c < 16) (he : e < 2 ^ k.exLenBits.getD c 0) :
    ∃ j, emitToken (lengthToken k c e) i = .next j ∧ i.Writes (lengthCode k c e) j := by
  obtain ⟨h1, h16, hlt⟩ := lengthCode_fits hk hc he
  obtain ⟨j, hj, hw⟩ := outputBits_writes hi.outBufWf hi.packed h1 h16 hlt
  obtain ⟨hb, hcode⟩ := encodeTables_length hk i.mode hc he
  refine ⟨j, emitToken_eq_next.2 ⟨_, _, ?_, ?_, hj⟩, hw⟩
  · rw [hi.tables.1, hb]
  · rw [hi.tables.2, hcode]

/-- `emitEnd` writes END's encoding (R256). -/
theorem emitEnd_writes {k : CodeTables} (hk : k.legal = true) {i : IUnit} (hi : i.Encoding k) :
    ∃ j, emitEnd i = .next j ∧ i.Writes (encode k (.token i.mode) .endToken) j := by
  obtain ⟨hx, hb, -⟩ := legal_ends hk
  have h := emitToken_length_writes hk hi (c := 15) (e := 0xFF) (by decide) (by rw [hx]; decide)
  rw [lengthToken, hb] at h
  exact h

/-- The split of a stored distance inside the window (R255, R108). -/
theorem distance_split {size d : Nat} {dict : DictionarySize} (hf : flushable size d = true)
    (hd : d < 2 ^ (dict.bits + 6)) :
    positionCode size dict d = d / 2 ^ lowWidth size dict ∧
      lowDistanceBits size dict.distMask d = d % 2 ^ lowWidth size dict ∧ d / 2 ^ lowWidth size dict < 64 := by
  have hmask : dict.distMask.toNat = 2 ^ dict.bits - 1 := by cases dict <;> rfl
  refine ⟨Nat.shiftRight_eq_div_pow .., ?_, ?_⟩ <;> unfold lowWidth
  · unfold lowDistanceBits
    by_cases h : size = 2
    · rw [if_pos h, if_pos h]
      exact Nat.and_two_pow_sub_one_eq_mod d 2
    · rw [if_neg h, if_neg h, hmask, Nat.and_two_pow_sub_one_eq_mod]
  · apply Nat.div_lt_of_lt_mul
    by_cases h : size = 2
    · subst h
      simp [flushable] at hf
      rw [if_pos rfl]
      omega
    · rw [if_neg h]
      rw [Nat.pow_add] at hd
      omega

/-- The length of a match is not END's (R109, R238). -/
theorem lengthCodeOf_ne_end {k : CodeTables} (hk : k.legal = true) {size : Nat} (h2 : 2 ≤ size) (hs : size ≤ 0x204) :
    ¬(lengthCodeOf k size = 15 ∧ size - 2 - k.lenBase.getD (lengthCodeOf k size) 0 = 0xFF) := by
  rintro ⟨h15, h255⟩
  obtain ⟨-, hle, -⟩ := lengthCodeOf_spec hk h2 hs
  have hb := (legal_ends hk).2.1
  rw [h15] at h255 hle
  omega

/-- The bits of a COPY: those of its length part, its position code and its low distance bits. -/
theorem token_copy_code {k : CodeTables} (hk : k.legal = true) (mode : CompressionMode) {dict : DictionarySize}
    {size d : Nat} (h2 : 2 ≤ size) (hs : size ≤ 0x204) (hf : flushable size d = true) (hd : d < 2 ^ (dict.bits + 6)) :
    (Token.copy size d).code k mode dict =
      ((lengthCode k (lengthCodeOf k size) (size - 2 - k.lenBase.getD (lengthCodeOf k size) 0)).followedBy
        ⟨k.distBits.getD (d / 2 ^ lowWidth size dict) 0, k.distCode.getD (d / 2 ^ lowWidth size dict) 0⟩).followedBy
          ⟨lowWidth size dict, d % 2 ^ lowWidth size dict⟩ := by
  obtain ⟨hc, hle, he⟩ := lengthCodeOf_spec hk h2 hs
  obtain ⟨he8, h0⟩ := exLenBits_pow_le hk hc he
  obtain ⟨-, -, hp⟩ := distance_split hf hd
  have h6 := Nat.pow_le_pow_right (n := 2) (by decide) (lowWidth_le size dict).2
  have hlow : d % 2 ^ lowWidth size dict < 2 ^ lowWidth size dict := Nat.mod_lt _ (Nat.two_pow_pos _)
  have hlen : lengthPart (lengthCodeOf k size) (size - 2 - k.lenBase.getD (lengthCodeOf k size) 0) =
      lengthInstr (lengthCodeOf k size) (size - 2 - k.lenBase.getD (lengthCodeOf k size) 0) :=
    (if_neg (lengthCodeOf_ne_end hk h2 hs)).symm
  simp only [Token.code]
  rw [hlen, encode_lengthInstr k _ hc he8 h0, encode_distancePart k size dict _ hp, BitVec.toNat_ofNat,
    Nat.mod_eq_of_lt (show d % 2 ^ lowWidth size dict < 2 ^ 6 by omega), Code.followedBy_assoc]
  rfl

/-- `emitMatch` writes the encoding of a match inside the window, and moves the cursor past it (R255, R257). -/
theorem emitMatch_writes {k : CodeTables} (hk : k.legal = true) {i : IUnit} (hi : i.Encoding k) {size d : Nat}
    (h2 : 2 ≤ size) (hs : size ≤ 0x204) (hf : flushable size d = true) (hd : d < i.window.toNat) :
    ∃ j, emitMatch k size d i = .next { j with cursor := i.cursor + size } ∧
      i.Writes ((Token.copy size d).code k i.mode i.dictBits) j := by
  have hwindow : i.window.toNat = 2 ^ (i.dictBits.bits + 6) := by
    rw [hi.geometry.2]
    cases i.dictBits <;> rfl
  rw [hwindow] at hd
  obtain ⟨hc, hle, he⟩ := lengthCodeOf_spec hk h2 hs
  obtain ⟨hpos, hlow, hp⟩ := distance_split hf hd
  obtain ⟨j, hj, hw⟩ := emitToken_length_writes hk hi hc he
  have htoken : lengthToken k (lengthCodeOf k size) (size - 2 - k.lenBase.getD (lengthCodeOf k size) 0) = size + 0xFE := by
    rw [lengthToken]; omega
  rw [htoken] at hj
  obtain ⟨hb1, hb8⟩ := legal_distBits hk hp
  obtain ⟨-, -, -, -, hl1, hl2, -⟩ := legal_sized hk
  obtain ⟨l, hl, hwl⟩ := outputBits_writes hw.outBufWf hw.packed hb1 (by omega) (legal_code_lt hk _).2.1
  have hlw := lowWidth_le size i.dictBits
  obtain ⟨u, hu, hwu⟩ := outputBits_writes (n := lowWidth size i.dictBits) (code := d % 2 ^ lowWidth size i.dictBits)
    hwl.outBufWf hwl.packed (by omega) (by omega) (Nat.mod_lt _ (Nat.two_pow_pos _))
  have hall := (hw.trans hwl).trans hwu
  rw [← token_copy_code hk i.mode h2 hs hf hd] at hall
  have hcursor : u.cursor = i.cursor := by rw [hall.eq]
  have hdict : l.dictBits = i.dictBits := by rw [(hw.trans hwl).eq]
  have hmask : l.distMask = i.dictBits.distMask := by rw [(hw.trans hwl).eq]; exact hi.geometry.1
  refine ⟨u, emitMatch_eq_next.2 ⟨j, l, u, _, _, hj, ?_, ?_, hl, ?_, by rw [hcursor]⟩, hall⟩
  · rw [hpos, List.getElem?_eq_getElem (by omega), List.getD_eq_getElem _ _ (by omega)]
  · rw [hpos, List.getElem?_eq_getElem (by omega), List.getD_eq_getElem _ _ (by omega)]
  · rw [hdict, hmask, hlow]
    exact hu

end Sys2Proof.Machine
end

section
/-! SUPPORT. The search (R238, R239): a flushable match repeats bytes of the history, so that its COPY puts out the bytes at the
cursor. -/

namespace Sys2Proof.Machine

/-! ### What a token stands for -/

/-- The output after a token, from the output before it (R207, R211). -/
def Token.put (out : List Byte) : Token → List Byte
  | .literal b => out ++ [b]
  | .copy size d => out ++ copied out size (d + 1)

/-- A token that the compressor may emit after `out`: a literal, or a flushable match inside the window and the history
(R238, R239). -/
def Token.Fits (dict : DictionarySize) (out : List Byte) : Token → Prop
  | .literal _ => True
  | .copy size d => 2 ≤ size ∧ size ≤ 0x204 ∧ flushable size d = true ∧ d < 2 ^ (dict.bits + 6) ∧ d < out.length

/-- From the output `out`, the tokens lead to the output `out'`. -/
inductive Spells (dict : DictionarySize) : List Byte → List Token → List Byte → Prop
  | nil (out : List Byte) : Spells dict out [] out
  | cons {out out' : List Byte} {token : Token} {tokens : List Token} (fits : token.Fits dict out)
      (rest : Spells dict (token.put out) tokens out') : Spells dict out (token :: tokens) out'

theorem Spells.snoc {dict : DictionarySize} {out out' : List Byte} {tokens : List Token} (h : Spells dict out tokens out')
    {token : Token} (ht : token.Fits dict out') : Spells dict out (tokens ++ [token]) (token.put out') := by
  induction h with
  | nil out => exact .cons ht (.nil _)
  | cons fits _ ih => exact .cons fits (ih ht)

/-! ### The search -/

theorem matchLength_spec (cap : Nat) (as bs : List Byte) :
    matchLength cap as bs ≤ cap ∧ ∀ j < matchLength cap as bs, ∃ x, as[j]? = some x ∧ bs[j]? = some x := by
  induction cap generalizing as bs with
  | zero => exact ⟨Nat.zero_le _, fun j hj => absurd hj (Nat.not_lt_zero j)⟩
  | succ cap ih =>
    match as, bs with
    | [], _ => exact ⟨Nat.zero_le _, fun j hj => absurd hj (Nat.not_lt_zero j)⟩
    | _ :: _, [] => exact ⟨Nat.zero_le _, fun j hj => absurd hj (Nat.not_lt_zero j)⟩
    | a :: as, b :: bs =>
      rw [matchLength]
      split
      · rename_i hab
        subst hab
        obtain ⟨h1, h2⟩ := ih as bs
        refine ⟨Nat.succ_le_succ h1, fun j hj => ?_⟩
        cases j with
        | zero => exact ⟨a, rfl, rfl⟩
        | succ j => exact h2 j (by omega)
      · exact ⟨Nat.zero_le _, fun j hj => absurd hj (Nat.not_lt_zero j)⟩

theorem findNeedle_spec {n0 n1 : Byte} {at' count m : Nat} {bytes : List Byte}
    (h : findNeedle n0 n1 at' count bytes = some m) :
    at' ≤ m ∧ m < at' + count ∧ bytes[m - at']? = some n0 ∧ bytes[m - at' + 1]? = some n1 := by
  induction count generalizing at' bytes with
  | zero => simp [findNeedle] at h
  | succ count ih =>
    match bytes with
    | [] => simp [findNeedle] at h
    | [_] => simp [findNeedle] at h
    | b0 :: b1 :: rest =>
      rw [findNeedle] at h
      split at h
      · rename_i hb
        obtain ⟨rfl, rfl⟩ := hb
        cases h
        refine ⟨Nat.le_refl _, by omega, ?_⟩
        rw [Nat.sub_self]
        exact ⟨rfl, rfl⟩
      · obtain ⟨h1, h2, h3, h4⟩ := ih h
        refine ⟨by omega, by omega, ?_⟩
        rw [show m - at' = m - (at' + 1) + 1 by omega]
        exact ⟨h3, h4⟩

/-- What a flushable match is (R238): it starts in the history, and its bytes are those at the cursor. -/
theorem findRepetitions_spec {bytes : List Byte} {cursor : Nat}
    (h : flushable (findRepetitions bytes cursor).1 (findRepetitions bytes cursor).2 = true) :
    ∃ m size, findRepetitions bytes cursor = (size, cursor - m - 1) ∧ m + 2 ≤ cursor ∧ 2 ≤ size ∧ size ≤ 0x204 ∧
      cursor + size ≤ bytes.length ∧ ∀ j < size, bytes[m + j]? = bytes[cursor + j]? := by
  have hnone : ∀ {r : Nat × Nat}, r = (0, 0) → flushable r.1 r.2 = true → False := by
    rintro r rfl hr
    cases hr
  unfold findRepetitions at h ⊢
  match hd : bytes.drop cursor with
  | [] => rw [hd] at h; exact (hnone rfl h).elim
  | [_] => rw [hd] at h; exact (hnone rfl h).elim
  | n0 :: n1 :: rest =>
    rw [hd] at h
    dsimp only at h ⊢
    by_cases h2 : cursor < 2
    · rw [if_pos h2] at h
      exact (hnone rfl h).elim
    rw [if_neg h2] at h ⊢
    cases hf : findNeedle n0 n1 0 (cursor - 1) bytes with
    | none => rw [hf] at h; exact (hnone rfl h).elim
    | some m =>
      obtain ⟨-, hm, hn0, hn1⟩ := findNeedle_spec hf
      rw [Nat.sub_zero] at hn0 hn1
      obtain ⟨tail, htail⟩ : ∃ tail, bytes.drop m = n0 :: n1 :: tail := by
        obtain ⟨h1, e1⟩ := List.getElem?_eq_some_iff.1 hn0
        obtain ⟨h2, e2⟩ := List.getElem?_eq_some_iff.1 hn1
        exact ⟨bytes.drop (m + 1 + 1), by rw [List.drop_eq_getElem_cons h1, List.drop_eq_getElem_cons h2, e1, e2]⟩
      obtain ⟨hcap, hsame⟩ := matchLength_spec (min longestAllowedRepetition (rest.length + 2)) (bytes.drop m)
        (n0 :: n1 :: rest)
      have hlen := congrArg List.length hd
      rw [List.length_drop, List.length_cons, List.length_cons] at hlen
      have hmost : longestAllowedRepetition = 0x204 := rfl
      refine ⟨m, _, rfl, by omega, ?_, by omega, by omega, fun j hj => ?_⟩
      · obtain ⟨cap, hc⟩ : ∃ cap, min longestAllowedRepetition (rest.length + 2) = cap + 1 + 1 :=
          ⟨min longestAllowedRepetition (rest.length + 2) - 2, by unfold longestAllowedRepetition; omega⟩
        rw [htail, hc, matchLength, if_pos rfl, matchLength, if_pos rfl]
        omega
      · obtain ⟨x, hx, hy⟩ := hsame j hj
        rw [← hd, List.getElem?_drop] at hy
        rw [List.getElem?_drop] at hx
        rw [hx, hy]

/-- A match repeats with its distance, so each of its bytes is one of the history (R211, R84). -/
theorem match_periodic {bytes : List Byte} {m dist size : Nat} (hd : 1 ≤ dist)
    (h : ∀ j < size, bytes[m + j]? = bytes[m + dist + j]?) (j : Nat) (hj : j < size) :
    bytes[m + j % dist]? = bytes[m + dist + j]? := by
  induction j using Nat.strong_induction_on with
  | _ j ih =>
    rcases Nat.lt_or_ge j dist with hlt | hge
    · rw [Nat.mod_eq_of_lt hlt, h j hj]
    · rw [Nat.mod_eq_sub_mod hge, ih (j - dist) (by omega) (by omega), ← h j hj]
      congr 1
      omega

/-- What a COPY of a match puts out is the bytes at the cursor. -/
theorem copied_match {bytes out : List Byte} {cursor m size : Nat} (hm : m + 2 ≤ cursor) (hlen : cursor + size ≤ bytes.length)
    (hsuf : bytes.take cursor <:+ out) (h : ∀ j < size, bytes[m + j]? = bytes[cursor + j]?) :
    copied out size (cursor - m) = (bytes.drop cursor).take size := by
  obtain ⟨early, rfl⟩ := hsuf
  have hl : (bytes.take cursor).length = cursor := by rw [List.length_take]; omega
  rw [copied_append (by omega)]
  refine List.ext_getElem? fun j => ?_
  rcases Nat.lt_or_ge j size with hj | hj
  · have hper := match_periodic (bytes := bytes) (m := m) (dist := cursor - m) (size := size) (by omega)
      (fun j hj => by rw [show m + (cursor - m) + j = cursor + j by omega]; exact h j hj) j hj
    rw [show m + (cursor - m) + j = cursor + j by omega] at hper
    have hmod := Nat.mod_lt j (show cursor - m > 0 by omega)
    rw [copied, List.getElem?_map, List.getElem?_range hj, Option.map_some, hl, List.getElem?_take, if_pos hj,
      List.getElem?_drop, ← hper, List.getD_eq_getElem?_getD, List.getElem?_take, if_pos (by omega),
      show cursor - (cursor - m) + j % (cursor - m) = m + j % (cursor - m) by omega,
      List.getElem?_eq_getElem (by omega)]
    rfl
  · rw [List.getElem?_eq_none (by simp [copied, hj]), List.getElem?_eq_none (by rw [List.length_take]; omega)]

end Sys2Proof.Machine
end

section
/-! SUPPORT. A stream that starts with the bits of a token sequence decodes to it: the decoder's half of the round trip (R265). -/

namespace Sys2Proof

/-! ### A stream that starts with a bit pattern -/

theorem Code.followedBy_empty (a : Code) : a.followedBy ⟨0, 0⟩ = a := by
  simp [Code.followedBy]

theorem Code.empty_followedBy (a : Code) : (Code.mk 0 0).followedBy a = a := by
  simp [Code.followedBy]

/-- The next bits of the reader are those of `code` (R31, R74). -/
structure BitReader.Starts (r : BitReader) (code : Code) : Prop where
  avail : code.width ≤ r.avail
  bits : r.bits % 2 ^ code.width = code.bits

/-- The first of two patterns, and the reader past it. -/
theorem BitReader.Starts.split {r : BitReader} {a b : Code} (h : r.Starts (a.followedBy b)) (ha : a.bits < 2 ^ a.width) :
    r.Starts a ∧ ∀ r', r.Reads a.width r' → r'.Starts b := by
  have havail := h.avail
  rw [Code.followedBy_width] at havail
  obtain ⟨h1, h2⟩ := mod_two_fields h.bits ha
  refine ⟨⟨by omega, h1⟩, fun r' hr' => ⟨?_, ?_⟩⟩
  · have := hr'.avail
    omega
  · rw [hr'.bits, h2]

/-- A well-formed token part that the stream starts with, and 8 bits more, is what the decoder reads. -/
theorem decode_starts {k : CodeTables} {t : DecodeTables} {sp : Space} {i : Instr} {r : BitReader} {rest : Code}
    (hk : k.legal = true) (hsp : sp.inStream = true) (ht : t.ready k sp = true) (hi : wellFormed k sp i = true)
    (hne : i ≠ .endToken) (hr : r.wf = true) (h : r.Starts ((encode k sp i).followedBy rest)) (h8 : 8 ≤ rest.width) :
    ∃ r', decode k t sp r = .instr i r' ∧ r.Reads (encode k sp i).width r' ∧ r'.Starts rest := by
  have havail := h.avail
  rw [Code.followedBy_width] at havail
  obtain ⟨hfirst, hrest⟩ := h.split (encode_fits i k sp hk hi)
  obtain ⟨r', hd, hreads⟩ := decode_encode hk hsp ht hi hr hfirst.bits (by rw [slack_of_ne hne]; omega)
  exact ⟨r', hd, hreads hne, hrest r' (hreads hne)⟩

namespace Machine

/-! ### The stream of a token sequence -/

/-- What the decoder finds where a token stands. -/
def Token.next (r : BitReader) : Token → NextToken
  | .literal b => .byte b r
  | .copy size d => .copy size (d + 1) r

/-- The bits of some tokens, joined. -/
def tokensCode (k : CodeTables) (mode : CompressionMode) (dict : DictionarySize) (tokens : List Token) : Code :=
  (tokens.map (Token.code k mode dict)).foldr Code.followedBy ⟨0, 0⟩

theorem tokensCode_cons (k : CodeTables) (mode : CompressionMode) (dict : DictionarySize) (token : Token)
    (tokens : List Token) : tokensCode k mode dict (token :: tokens) =
      (token.code k mode dict).followedBy (tokensCode k mode dict tokens) := rfl

theorem tokensCode_snoc (k : CodeTables) (mode : CompressionMode) (dict : DictionarySize) (tokens : List Token)
    (token : Token) : tokensCode k mode dict (tokens ++ [token]) =
      (tokensCode k mode dict tokens).followedBy (token.code k mode dict) := by
  induction tokens with
  | nil =>
    rw [List.nil_append, tokensCode_cons]
    exact (Code.followedBy_empty _).trans (Code.empty_followedBy _).symm
  | cons t tokens ih => rw [List.cons_append, tokensCode_cons, ih, tokensCode_cons, Code.followedBy_assoc]

/-- The literal of a byte as the mode has it (R105, R106). -/
theorem literal_code {k : CodeTables} (mode : CompressionMode) (dict : DictionarySize) (b : Byte) :
    ∃ i, (Token.literal b).code k mode dict = encode k (.token mode) i ∧ wellFormed k (.token mode) i = true ∧
      i ≠ .endToken ∧ (i.shape = .literalBinary b ∨ i.shape = .literalAscii b) := by
  cases mode with
  | binary => exact ⟨.litB b, rfl, wellFormed_litB k b, litB_ne_endToken b, .inl rfl⟩
  | ascii =>
    exact ⟨asciiLiteral b, rfl, wellFormed_asciiLiteral k b, asciiLiteral_ne_endToken b, .inr (shape_asciiLiteral b)⟩

/-- A distance that was split is put together again (R108, R255). -/
theorem trueDistance_split (size : Nat) (dict : DictionarySize) (d : Nat) :
    trueDistance size dict (d / 2 ^ lowWidth size dict) (d % 2 ^ lowWidth size dict) = d + 1 := by
  rw [trueDistance, storedDistance, ← Nat.shiftLeft_add_eq_or_of_lt (Nat.mod_lt d (Nat.two_pow_pos _)), Nat.shiftLeft_eq,
    Nat.mul_comm, Nat.div_add_mod]

section
variable {k : CodeTables} {mode : CompressionMode} {dict : DictionarySize} {r : BitReader} {rest : Code}

/-- The two parts of a COPY, as the decoder meets them (R107, R108). -/
theorem copy_code (hk : k.legal = true) {size d : Nat} (h2 : 2 ≤ size) (hs : size ≤ 0x204) :
    ∃ c e, (Token.copy size d).code k mode dict = (encode k (.token mode) (lengthInstr c e)).followedBy
        (encode k (.distance size dict dict.distMask)
          (distancePart (d / 2 ^ lowWidth size dict) (BitVec.ofNat 6 (d % 2 ^ lowWidth size dict)))) ∧
      c < 16 ∧ e < 2 ^ k.exLenBits.getD c 0 ∧ ¬(c = 15 ∧ e = 0xFF) ∧ repeatLengthOf (lengthToken k c e) = size := by
  obtain ⟨hc, hle, he⟩ := lengthCodeOf_spec hk h2 hs
  have hne := lengthCodeOf_ne_end hk h2 hs
  have htoken : lengthToken k (lengthCodeOf k size) (size - 2 - k.lenBase.getD (lengthCodeOf k size) 0) = size + 0xFE := by
    rw [lengthToken]; omega
  have hsize : repeatLengthOf (lengthToken k (lengthCodeOf k size) (size - 2 - k.lenBase.getD (lengthCodeOf k size) 0)) =
      size := by rw [htoken]; exact Nat.add_sub_cancel ..
  refine ⟨lengthCodeOf k size, size - 2 - k.lenBase.getD (lengthCodeOf k size) 0, ?_, hc, he, hne, hsize⟩
  have hpart : lengthInstr (lengthCodeOf k size) (size - 2 - k.lenBase.getD (lengthCodeOf k size) 0) =
      lengthPart (lengthCodeOf k size) (size - 2 - k.lenBase.getD (lengthCodeOf k size) 0) := if_neg hne
  rw [hpart]
  rfl

/-- The decoder reads the token that the stream starts with (R105 to R108). -/
theorem nextToken_starts (hk : k.legal = true) {token : Token} {out : List Byte} (hfit : token.Fits dict out)
    (hr : r.wf = true) (h : r.Starts ((token.code k mode dict).followedBy rest)) (h8 : 8 ≤ rest.width) :
    ∃ r', nextToken k (allTables k) mode dict r = token.next r' ∧ r'.wf = true ∧ r'.Starts rest := by
  have ht := allTables_ready k (.token mode)
  cases token with
  | literal b =>
    obtain ⟨i, hcode, hi, hne, hs⟩ := literal_code (k := k) mode dict b
    rw [hcode] at h
    obtain ⟨r', hd, hreads, hrest⟩ := decode_starts hk rfl ht hi hne hr h h8
    exact ⟨r', nextToken_of_byte hd hs, hreads.wf, hrest⟩
  | copy size d =>
    obtain ⟨h2, hs, hf, hd, -⟩ := hfit
    obtain ⟨-, -, hp⟩ := distance_split hf hd
    obtain ⟨c, e, hcode, hc, he, hne, hsize⟩ := copy_code (mode := mode) (d := d) hk h2 hs
    obtain ⟨he8, h0⟩ := exLenBits_pow_le hk hc he
    have hend : lengthInstr c e ≠ .endToken := fun h => hne ((lengthInstr_eq_endToken_iff hc he8 h0).1 h)
    have hspace := distance_inStream hk hc he hne dict
    rw [hsize] at hspace
    have hlow : d % 2 ^ lowWidth size dict < 2 ^ lowWidth size dict := Nat.mod_lt _ (Nat.two_pow_pos _)
    rw [hcode, Code.followedBy_assoc] at h
    obtain ⟨r₁, hd₁, hreads₁, h₁⟩ := decode_starts hk rfl ht (wellFormed_lengthInstr hk mode hc he) hend hr h
      (by rw [Code.followedBy_width]; omega)
    obtain ⟨r', hd', hreads', h'⟩ := decode_starts hk hspace (ready_token ht size dict dict.distMask)
      (wellFormed_distancePart k size dict hp hlow) (distancePart_ne_endToken hp _) hreads₁.wf h₁ h8
    have hshape : (lengthInstr c e).shape = .length c e := by rw [shape_lengthInstr hc he8 h0, if_neg hne]
    have hn := nextToken_of_copy hd₁ hshape (by rw [hsize]; exact hd') (shape_distancePart hp _)
    have h6 := Nat.pow_le_pow_right (n := 2) (by decide) (lowWidth_le size dict).2
    rw [hsize, BitVec.toNat_ofNat, Nat.mod_eq_of_lt (show d % 2 ^ lowWidth size dict < 2 ^ 6 by omega),
      trueDistance_split] at hn
    exact ⟨r', hn, hreads'.wf, h'⟩

/-- END is long enough to be the 8 bits that the last token asks for behind it (R109). -/
theorem end_width (hk : k.legal = true) (mode : CompressionMode) :
    encode k (.token mode) .endToken = lengthCode k 15 0xFF ∧ 10 ≤ (lengthCode k 15 0xFF).width := by
  have h := legal_lenBits hk (c := 15) (by decide)
  refine ⟨rfl, ?_⟩
  rw [lengthCode_width, (legal_ends hk).1]
  omega

theorem nextToken_end (hk : k.legal = true) (hr : r.wf = true) (h : r.Starts (encode k (.token mode) .endToken)) :
    nextToken k (allTables k) mode dict r = .stop := by
  obtain ⟨r', hd, -⟩ := decode_encode hk rfl (allTables_ready k (.token mode)) (i := .endToken)
    (by cases mode <;> rfl) hr h.bits
    (by rw [slack_endToken]; exact h.avail)
  exact nextToken_of_end hd

/-- A stream of tokens that ends with END gives the output that the tokens spell (R118, R218). -/
theorem explodeRest_spells (hk : k.legal = true) {out out' : List Byte} {tokens : List Token}
    (hspells : Spells dict out tokens out') (hr : r.wf = true)
    (h : r.Starts ((tokensCode k mode dict tokens).followedBy (encode k (.token mode) .endToken))) :
    explodeRest k mode dict r out = (out', .done, .none) := by
  induction hspells generalizing r with
  | nil out =>
    rw [tokensCode, List.map_nil, List.foldr_nil, Code.empty_followedBy] at h
    rw [explodeRest_eq hk hr, nextToken_end hk hr h]
  | @cons out out' token tokens hfit _ ih =>
    rw [tokensCode_cons, Code.followedBy_assoc] at h
    obtain ⟨r', hn, hr', h'⟩ := nextToken_starts hk hfit hr h (by
      rw [Code.followedBy_width, (end_width hk mode).1]
      have := (end_width hk mode).2
      omega)
    rw [explodeRest_eq hk hr, hn, ← ih hr' h']
    cases token with
    | literal b => rfl
    | copy size d =>
      obtain ⟨-, -, -, -, hlt⟩ := hfit
      exact if_neg (Nat.not_lt.2 hlt)

end

end Machine
end Sys2Proof
end

section
/-! SUPPORT. The scan (R236 to R240, R258, R260) keeps the compressor's invariant `Compressing`: the bits written are those of
tokens that spell what was scanned. -/

namespace Sys2Proof.Machine

/-! ### What a compression has made so far -/

/-- The first two bytes of a stream, as bits (R235). -/
def headerCode (mode : CompressionMode) (dict : DictionarySize) : Code := ⟨16, bytesToNat [mode.toByte, dict.toByte]⟩

/-- The bits of a stream up to a token boundary. -/
def streamCode (k : CodeTables) (mode : CompressionMode) (dict : DictionarySize) (tokens : List Token) : Code :=
  (headerCode mode dict).followedBy (tokensCode k mode dict tokens)

/-- The bytes handed out and those in `outBuf` hold the bits of `code` (R250, R252). -/
structure IUnit.Holds (i : IUnit) (sent : List Byte) (code : Code) : Prop where
  bits : bytesToNat (sent ++ i.outBuf.contents) = code.bits
  position : 8 * sent.length + i.position = code.width

theorem IUnit.Holds.writes {i j : IUnit} {sent : List Byte} {a b : Code} (h : i.Holds sent a) (hw : i.Writes b j) :
    j.Holds sent (a.followedBy b) where
  bits := by
    rw [Code.followedBy_bits, ← h.bits, ← h.position, bytesToNat_append, bytesToNat_append, hw.bits]
    simp only [Nat.shiftLeft_eq, Nat.pow_add]
    ring
  position := by rw [hw.position, Code.followedBy_width, ← h.position, Nat.add_assoc]

/-- The scan has turned `out` into `tokens`, and `out` with the bytes not scanned yet is what was pushed; the history in
`inBuf` is the end of `out` (R258, R264). -/
structure IUnit.Scanned (i : IUnit) (dict : DictionarySize) (pushed : List Byte) (tokens : List Token) (out : List Byte) :
    Prop where
  spells : Spells dict [] tokens out
  unscanned : out ++ i.inBuf.contents.drop i.cursor = pushed
  history : i.inBuf.contents.take i.cursor <:+ out

/-- An IMPLODE unit that has been pushed the bytes `pushed` and has handed out `sent`. -/
structure Compressing (k : CodeTables) (mode : CompressionMode) (dict : DictionarySize) (sent pushed : List Byte)
    (i : IUnit) : Prop where
  encoding : i.Encoding k
  modeIs : i.mode = mode
  dictIs : i.dictBits = dict
  made : ∃ tokens out, i.Scanned dict pushed tokens out ∧ i.Holds sent (streamCode k mode dict tokens)

theorem window_toNat (dict : DictionarySize) : dict.window.toNat = 2 ^ (dict.bits + 6) ∧ 1024 ≤ dict.window.toNat := by
  cases dict <;> decide

/-- `evict` drops history only (R258). -/
theorem evict_spec (i : IUnit) (hb : i.inBuf.wf = true) :
    ∃ n b, evict i = { i with inBuf := b, cursor := i.cursor - n } ∧ b.contents = i.inBuf.contents.drop n ∧
      b.wf = true ∧ n ≤ i.cursor ∧ (i.cursor < i.window.toNat + 1024 → 1024 ≤ i.window.toNat →
        i.cursor - n < i.window.toNat) := by
  unfold evict
  split
  · rename_i h
    exact ⟨i.window.toNat, _, rfl, contents_dropStart hb _, wf_dropStart hb _, h, fun h1 h2 => by omega⟩
  · rename_i h
    exact ⟨0, i.inBuf, rfl, rfl, hb, Nat.zero_le _, fun _ _ => Nat.not_le.1 h⟩

theorem IUnit.Scanned.evict {i : IUnit} {dict : DictionarySize} {pushed out : List Byte} {tokens : List Token}
    (h : i.Scanned dict pushed tokens out) {n : Nat} {b : Buffer} (hb : b.contents = i.inBuf.contents.drop n)
    (hn : n ≤ i.cursor) : ({ i with inBuf := b, cursor := i.cursor - n } : IUnit).Scanned dict pushed tokens out where
  spells := h.spells
  unscanned := by
    simp only [hb, List.drop_drop, Nat.add_sub_cancel' hn]
    exact h.unscanned
  history := by
    simp only [hb, ← List.drop_take]
    exact (List.drop_suffix _ _).trans h.history

/-- The cursor moves over the bytes of a token. -/
theorem IUnit.Scanned.advance {i : IUnit} {dict : DictionarySize} {pushed out : List Byte} {tokens : List Token}
    (h : i.Scanned dict pushed tokens out) {token : Token} (hfit : token.Fits dict out)
    (hput : token.put out = out ++ (i.inBuf.contents.drop i.cursor).take token.size) :
    ({ i with cursor := i.cursor + token.size } : IUnit).Scanned dict pushed (tokens ++ [token]) (token.put out) where
  spells := h.spells.snoc hfit
  unscanned := by
    rw [hput, List.append_assoc, ← List.drop_drop, List.take_append_drop, h.unscanned]
  history := by
    rw [hput, List.take_add]
    obtain ⟨early, he⟩ := h.history
    exact ⟨early, by rw [← List.append_assoc, he]⟩

section
variable {k : CodeTables} {mode : CompressionMode} {dict : DictionarySize} {sent pushed : List Byte} {i j : IUnit}

theorem IUnit.Scanned.of_writes {out : List Byte} {tokens : List Token} {code : Code}
    (h : i.Scanned dict pushed tokens out) (hw : i.Writes code j) : j.Scanned dict pushed tokens out := by
  obtain ⟨o, b, rfl⟩ : ∃ o b, j = { i with outBuf := o, outBits := b } := ⟨_, _, hw.eq⟩
  exact ⟨h.spells, h.unscanned, h.history⟩

/-- The unit `u` comes from `i` by a part of the scan: what has been made is in order, and bytes have been scanned. -/
structure IUnit.ScannedOn (k : CodeTables) (mode : CompressionMode) (dict : DictionarySize) (sent pushed : List Byte)
    (i u : IUnit) : Prop where
  compressing : Compressing k mode dict sent pushed u
  flag : u.handledFirstTwoBytes = true
  progress : u.inBuf.size - u.cursor < i.inBuf.size - i.cursor
  ended : u.streamEnded = i.streamEnded

/-- A token that was written and passed by the cursor, then the eviction (R240, R258). -/
theorem Compressing.advance (h : Compressing k mode dict sent pushed i) {tokens : List Token} {out : List Byte}
    (hscan : i.Scanned dict pushed tokens out) (hhold : i.Holds sent (streamCode k mode dict tokens)) {token : Token}
    (hfit : token.Fits dict out)
    (hput : token.put out = out ++ (i.inBuf.contents.drop i.cursor).take token.size)
    (hsize : i.cursor + token.size ≤ i.inBuf.size) (hleast : 1 ≤ token.size) (hmost : token.size ≤ 0x204)
    (hfirst : i.handledFirstTwoBytes = true) (hw : i.Writes (token.code k mode dict) j) :
    i.ScannedOn k mode dict sent pushed (evict { j with cursor := i.cursor + token.size }) := by
  have henc := h.encoding.of_writes hw
  have hscan' := (hscan.of_writes hw).advance hfit (by
    rw [hput, hw.eq])
  have hcur : j.cursor = i.cursor := by rw [hw.eq]
  have hin : j.inBuf = i.inBuf := by rw [hw.eq]
  have hwin : j.window.toNat = dict.window.toNat := by rw [hw.eq, h.encoding.geometry.2, h.dictIs]
  rw [hcur] at hscan'
  obtain ⟨n, b, hev, hcon, hbwf, hn, hlt⟩ := evict_spec { j with cursor := i.cursor + token.size } henc.inBufWf
  have hbs : b.size = i.inBuf.size - n := by
    rw [← length_contents hbwf, hcon, List.length_drop, length_contents henc.inBufWf, hin]
  have hwindow := (window_toNat dict).2
  have hcursor := henc.cursor.2
  rw [hev]
  refine ⟨⟨?_, ?_, ?_, tokens ++ [token], token.put out, hscan'.evict hcon hn, ?_⟩, ?_, ?_, ?_⟩
  · exact
      { live := henc.live, packed := henc.packed, tables := henc.tables, geometry := henc.geometry
        cursor := ⟨by simp only [hbs] at hn ⊢; omega, hlt (by simp only; omega) (by simp only; omega)⟩
        firstTwo := fun hf => by
          have : j.handledFirstTwoBytes = true := by rw [hw.eq]; exact hfirst
          rw [this] at hf
          cases hf
        inBufWf := hbwf, outBufWf := henc.outBufWf }
  · rw [← h.modeIs, hw.eq]
  · rw [← h.dictIs, hw.eq]
  · have := hhold.writes hw
    rw [streamCode, tokensCode_snoc, ← Code.followedBy_assoc]
    exact ⟨this.bits, this.position⟩
  · rw [hw.eq]; exact hfirst
  · simp only [hbs] at hn ⊢
    omega
  · rw [hw.eq]

/-- The byte at the cursor as a literal, then the eviction (R240, R258). -/
theorem Compressing.literal (h : Compressing k mode dict sent pushed i) (hfirst : i.handledFirstTwoBytes = true) {b : Byte}
    (hb : i.inBuf.contents[i.cursor]? = some b) (hw : i.Writes ((Token.literal b).code k mode dict) j) :
    i.ScannedOn k mode dict sent pushed (evict { j with cursor := i.cursor + 1 }) := by
  obtain ⟨tokens, out, hscan, hhold⟩ := h.made
  obtain ⟨hlt, hget⟩ := List.getElem?_eq_some_iff.1 hb
  have hput : (Token.literal b).put out = out ++ (i.inBuf.contents.drop i.cursor).take 1 := by
    rw [List.take_one_drop_eq_of_lt_length hlt, List.get_eq_getElem, hget]
    rfl
  rw [length_contents h.encoding.inBufWf] at hlt
  exact h.advance hscan hhold (token := .literal b) trivial hput hlt (Nat.le_refl 1)
    (by rw [Token.size_literal]; decide) hfirst hw

/-- A scan step keeps what has been made in order, and scans a byte at least (R240). -/
theorem Compressing.scanStep (hk : k.legal = true) (h : Compressing k mode dict sent pushed i)
    (hlt : i.cursor < i.inBuf.size) (hfirst : i.handledFirstTwoBytes = true) :
    ∃ u, scanStep k i = .next u ∧ i.ScannedOn k mode dict sent pushed u := by
  have hlen := length_contents h.encoding.inBufWf
  cases hf : flushable (findRepetitions i.inBuf.contents i.cursor).1 (findRepetitions i.inBuf.contents i.cursor).2 with
  | false =>
    obtain ⟨b, hb⟩ : ∃ b, i.inBuf.contents[i.cursor]? = some b := ⟨_, List.getElem?_eq_getElem (hlen ▸ hlt)⟩
    obtain ⟨j, hj, hw⟩ := emitLiteral_writes hk h.encoding dict b
    have hcur : j.cursor = i.cursor := by rw [hw.eq]
    rw [h.modeIs] at hw
    refine ⟨_, scanStep_eq_next.2 ⟨_, .inr ⟨hf, b, j, readByte_eq h.encoding.inBufWf hb, hj, rfl⟩, rfl⟩, ?_⟩
    rw [hcur]
    exact h.literal hfirst hb hw
  | true =>
    obtain ⟨tokens, out, hscan, hhold⟩ := h.made
    obtain ⟨m, size, heq, hm, h2, hmost, hin, hsame⟩ := findRepetitions_spec hf
    have hf' := hf
    rw [heq] at hf'
    have hcursor := h.encoding.cursor.2
    have hwin : i.window.toNat = 2 ^ (dict.bits + 6) := by
      rw [h.encoding.geometry.2, h.dictIs, (window_toNat dict).1]
    obtain ⟨j, hj, hw⟩ := emitMatch_writes hk h.encoding h2 hmost hf' (by omega)
    rw [h.modeIs, h.dictIs] at hw
    have hout := hscan.history.length_le
    rw [List.length_take] at hout
    have hfit : (Token.copy size (i.cursor - m - 1)).Fits dict out := ⟨h2, hmost, hf', by omega, by omega⟩
    have hput : (Token.copy size (i.cursor - m - 1)).put out = out ++ (i.inBuf.contents.drop i.cursor).take size := by
      rw [Token.put, show i.cursor - m - 1 + 1 = i.cursor - m by omega, copied_match hm hin hscan.history hsame]
    refine ⟨_, scanStep_eq_next.2 ⟨_, .inl ⟨hf, by rw [heq]; exact hj⟩, rfl⟩, ?_⟩
    exact h.advance hscan hhold hfit hput (hlen ▸ hin) (by rw [Token.size_copy]; omega) hmost hfirst hw

theorem evict_of_lt {i : IUnit} (h : i.cursor < i.window.toNat) : evict i = i := if_neg (Nat.not_le.2 h)

/-- The packer does not look at the cursor. -/
theorem IUnit.Writes.withCursor {code : Code} (h : i.Writes code j) (n : Nat) :
    ({ i with cursor := n } : IUnit).Writes code { j with cursor := n } where
  eq := by
    conv_lhs => rw [h.eq]
  outBufWf := h.outBufWf
  packed := h.packed
  position := h.position
  bits := h.bits

theorem Compressing.withFlag (h : Compressing k mode dict sent pushed i) :
    Compressing k mode dict sent pushed { i with handledFirstTwoBytes := true } := by
  obtain ⟨tokens, out, hscan, hhold⟩ := h.made
  exact
    { encoding :=
        { live := h.encoding.live, packed := h.encoding.packed, tables := h.encoding.tables
          geometry := h.encoding.geometry, cursor := h.encoding.cursor, firstTwo := fun hf => Bool.noConfusion hf
          inBufWf := h.encoding.inBufWf, outBufWf := h.encoding.outBufWf }
      modeIs := h.modeIs, dictIs := h.dictIs
      made := ⟨tokens, out, ⟨hscan.spells, hscan.unscanned, hscan.history⟩, ⟨hhold.bits, hhold.position⟩⟩ }

/-- The bytes 0 and 1 as literals, with the cursor moved at the end (R236). -/
theorem Compressing.twoLiterals (hk : k.legal = true) (h : Compressing k mode dict sent pushed i)
    (hflag : i.handledFirstTwoBytes = true) (hcur : i.cursor = 0) (h3 : 3 ≤ i.inBuf.size) :
    ∃ b0 b1 u v, i.inBuf.readByte 0 = .next b0 ∧ emitLiteral b0 i = .next u ∧ u.inBuf.readByte 1 = .next b1 ∧
      emitLiteral b1 u = .next v ∧ i.ScannedOn k mode dict sent pushed { v with cursor := 2 } := by
  have hwf := h.encoding.inBufWf
  have hlen := length_contents hwf
  have hwindow : 1024 ≤ i.window.toNat := by
    rw [h.encoding.geometry.2, h.dictIs]
    exact (window_toNat dict).2
  obtain ⟨b0, hb0⟩ : ∃ b, i.inBuf.contents[0]? = some b := ⟨_, List.getElem?_eq_getElem (by omega)⟩
  obtain ⟨b1, hb1⟩ : ∃ b, i.inBuf.contents[1]? = some b := ⟨_, List.getElem?_eq_getElem (by omega)⟩
  obtain ⟨u, hu, hw⟩ := emitLiteral_writes hk h.encoding dict b0
  obtain ⟨v, hv, hw'⟩ := emitLiteral_writes hk (h.encoding.of_writes hw) dict b1
  have hin : u.inBuf = i.inBuf := by rw [hw.eq]
  have hmode : u.mode = mode := by rw [hw.eq]; exact h.modeIs
  have huwin : u.window = i.window := by rw [hw.eq]
  have hvwin : v.window = i.window := by rw [hw'.eq]; exact huwin
  rw [h.modeIs] at hw
  rw [hmode] at hw'
  have hstay : ∀ (w : IUnit) (n : Nat), w.window = i.window → n ≤ 2 →
      evict { w with cursor := n } = { w with cursor := n } := fun w n hw hn =>
    evict_of_lt (by simp only [hw]; omega)
  have hone := h.literal hflag (by rw [hcur]; exact hb0) hw
  rw [hcur, hstay u (0 + 1) huwin (by decide)] at hone
  have htwo := hone.compressing.literal hone.flag (by rw [hin]; exact hb1) (hw'.withCursor 1)
  rw [hstay { v with cursor := 1 } (1 + 1) hvwin (by decide)] at htwo
  exact ⟨b0, b1, u, v, readByte_eq hwf hb0, hu, readByte_eq (hin ▸ hwf) (hin ▸ hb1), hv,
    ⟨htwo.compressing, htwo.flag, htwo.progress.trans hone.progress, htwo.ended.trans hone.ended⟩⟩

/-- The first two bytes go out as literals, where a third is there (R236). -/
theorem Compressing.firstTwoBytes (hk : k.legal = true) (h : Compressing k mode dict sent pushed i)
    (hfirst : i.handledFirstTwoBytes = false) :
    ∃ u, firstTwoBytes i = .next u ∧ Compressing k mode dict sent pushed u ∧ u.pendingRounds < i.pendingRounds ∧
      u.streamEnded = i.streamEnded := by
  rcases Nat.lt_or_ge i.inBuf.size 3 with h3 | h3
  · refine ⟨_, firstTwoBytes_eq_next.2 (.inl ⟨h3, rfl⟩), h.withFlag, ?_, rfl⟩
    rw [IUnit.pendingRounds, IUnit.pendingRounds, hfirst]
    exact Nat.lt_succ_self _
  · obtain ⟨b0, b1, u, v, h0, hu, h1, hv, hon⟩ :=
      h.withFlag.twoLiterals hk rfl (h.encoding.firstTwo hfirst) h3
    refine ⟨_, firstTwoBytes_eq_next.2 (.inr ⟨h3, b0, b1, u, v, h0, hu, h1, hv, rfl⟩), hon.compressing, ?_, hon.ended⟩
    rw [IUnit.pendingRounds, IUnit.pendingRounds, hfirst, hon.flag]
    exact Nat.lt_succ_of_lt hon.progress

/-- A round of the scan loop (R260). -/
theorem Compressing.round (hk : k.legal = true) (h : Compressing k mode dict sent pushed i) {hold : Bool}
    (hen : enabled hold i = true) :
    ∃ u, (if i.handledFirstTwoBytes then Machine.scanStep k i else Machine.firstTwoBytes i) = .next u ∧
      Compressing k mode dict sent pushed u ∧ u.pendingRounds < i.pendingRounds ∧ u.streamEnded = i.streamEnded := by
  cases hfirst : i.handledFirstTwoBytes with
  | false => exact h.firstTwoBytes hk hfirst
  | true =>
    have hlt : i.cursor < i.inBuf.size := by
      rw [enabled, Bool.and_eq_true] at hen
      exact of_decide_eq_true hen.1
    obtain ⟨u, hu, hon⟩ := h.scanStep hk hlt hfirst
    refine ⟨u, hu, hon.compressing, ?_, hon.ended⟩
    rw [IUnit.pendingRounds, IUnit.pendingRounds, hfirst, hon.flag]
    exact hon.progress

/-- The scan runs until no step may (R237, R260). -/
theorem Compressing.scanRounds (hk : k.legal = true) (hold : Bool) (fuel : Nat)
    (h : Compressing k mode dict sent pushed i) (hfuel : i.pendingRounds ≤ fuel) :
    ∃ u, scanRounds k hold fuel i = .next u ∧ Compressing k mode dict sent pushed u ∧ enabled hold u = false ∧
      u.streamEnded = i.streamEnded := by
  induction fuel generalizing i with
  | zero =>
    refine ⟨i, rfl, h, ?_, rfl⟩
    have hlt : ¬i.cursor < i.inBuf.size := by
      unfold IUnit.pendingRounds at hfuel
      omega
    rw [enabled, decide_eq_false hlt, Bool.false_and]
  | succ fuel ih =>
    cases hen : enabled hold i with
    | false => exact ⟨i, scanRounds_succ_eq_next.2 (.inl ⟨hen, rfl⟩), h, hen, rfl⟩
    | true =>
      obtain ⟨u, hu, hcomp, hless, hended⟩ := h.round hk hen
      obtain ⟨w, hw, hcomp', hoff, hended'⟩ := ih hcomp (by omega)
      exact ⟨w, scanRounds_succ_eq_next.2 (.inr ⟨hen, u, hu, hw⟩), hcomp', hoff, hended'.trans hended⟩

theorem Compressing.scanLoop (hk : k.legal = true) (hold : Bool) (h : Compressing k mode dict sent pushed i) :
    ∃ u, scanLoop k hold i = .next u ∧ Compressing k mode dict sent pushed u ∧ enabled hold u = false ∧
      u.streamEnded = i.streamEnded := by
  refine h.scanRounds hk hold _ ?_
  unfold IUnit.pendingRounds
  split <;> omega

end
end Sys2Proof.Machine
end

section
/-! SUPPORT. The compressor's invariant under the commands, and the finished stream (R253, R262). -/

namespace Sys2Proof.Machine

/-! ### The unit under the host's commands -/

section
variable {k : CodeTables} {mode : CompressionMode} {dict : DictionarySize} {sent pushed : List Byte} {i : IUnit}

/-- Setup has written the header and no token (R231, R235). -/
theorem compressing_setupI (k : CodeTables) (mode : CompressionMode) (dict : DictionarySize) :
    Compressing k mode dict [] [] (setupI k mode dict) where
  encoding :=
    { live := rfl
      packed := ⟨0, by rw [setupI, contents_append buffer_new_wf]; rfl, Nat.one_pos⟩
      tables := ⟨rfl, rfl⟩, geometry := ⟨rfl, rfl⟩
      cursor := ⟨Nat.le_refl 0, Nat.lt_of_lt_of_le (Nat.succ_pos 1023) (window_toNat dict).2⟩
      firstTwo := fun _ => rfl, inBufWf := rfl, outBufWf := wf_append buffer_new_wf _ }
  modeIs := rfl
  dictIs := rfl
  made := by
    refine ⟨[], [], ⟨.nil [], rfl, List.suffix_refl []⟩, ⟨?_, ?_⟩⟩
    · rw [List.nil_append, setupI, contents_append buffer_new_wf]
      rfl
    · rfl

theorem IUnit.Scanned.append {tokens : List Token} {out : List Byte} (h : i.Scanned dict pushed tokens out)
    (hb : i.inBuf.wf = true) (hc : i.cursor ≤ i.inBuf.size) (bytes : List Byte) :
    ({ i with inBuf := i.inBuf.append bytes } : IUnit).Scanned dict (pushed ++ bytes) tokens out where
  spells := h.spells
  unscanned := by
    rw [← length_contents hb] at hc
    simp only [contents_append hb, List.drop_append_of_le_length hc, ← h.unscanned, List.append_assoc]
  history := by
    rw [← length_contents hb] at hc
    simp only [contents_append hb, List.take_append_of_le_length hc]
    exact h.history

/-- More bytes to scan (R260). -/
theorem Compressing.append (h : Compressing k mode dict sent pushed i) (bytes : List Byte) :
    Compressing k mode dict sent (pushed ++ bytes) { i with inBuf := i.inBuf.append bytes } := by
  obtain ⟨tokens, out, hscan, hhold⟩ := h.made
  have hb := h.encoding.inBufWf
  obtain ⟨hle, hlt⟩ := h.encoding.cursor
  exact
    { encoding :=
        { live := h.encoding.live, packed := h.encoding.packed, tables := h.encoding.tables
          geometry := h.encoding.geometry
          cursor := ⟨by simp only [size_append hb]; omega, hlt⟩
          firstTwo := h.encoding.firstTwo, inBufWf := wf_append hb bytes, outBufWf := h.encoding.outBufWf }
      modeIs := h.modeIs, dictIs := h.dictIs
      made := ⟨tokens, out, hscan.append hb hle bytes, ⟨hhold.bits, hhold.position⟩⟩ }

/-- The end of the input is a flag (R262). -/
theorem Compressing.ending (h : Compressing k mode dict sent pushed i) :
    Compressing k mode dict sent pushed { i with streamEnded := true } := by
  obtain ⟨tokens, out, hscan, hhold⟩ := h.made
  exact
    { encoding :=
        { live := h.encoding.live, packed := h.encoding.packed, tables := h.encoding.tables
          geometry := h.encoding.geometry, cursor := h.encoding.cursor, firstTwo := h.encoding.firstTwo
          inBufWf := h.encoding.inBufWf, outBufWf := h.encoding.outBufWf }
      modeIs := h.modeIs, dictIs := h.dictIs
      made := ⟨tokens, out, ⟨hscan.spells, hscan.unscanned, hscan.history⟩, ⟨hhold.bits, hhold.position⟩⟩ }

theorem IUnit.Holds.drained {code : Code} (h : i.Holds sent code) {b : Buffer} {out : List Byte} (hi : i.outBuf.wf = true)
    (hb : b.wf = true) (hc : out ++ b.contents = i.outBuf.contents) (h1 : 1 ≤ b.size) :
    ({ i with outBuf := b, istate := .accumulating } : IUnit).Holds (sent ++ out) code where
  bits := by
    simp only [List.append_assoc, hc]
    exact h.bits
  position := by
    have hsize := congrArg List.length hc
    rw [List.length_append, length_contents hb, length_contents hi] at hsize
    rw [← h.position, IUnit.position, IUnit.position, List.length_append]
    simp only
    omega

/-- A drain hands out bytes from the front, and not the one that is being filled (R283, R39). -/
theorem Compressing.drained (h : Compressing k mode dict sent pushed i) {b : Buffer} {out : List Byte} (hb : b.wf = true)
    (hc : out ++ b.contents = i.outBuf.contents) (h1 : 1 ≤ b.size) :
    Compressing k mode dict (sent ++ out) pushed { i with outBuf := b, istate := .accumulating } := by
  obtain ⟨tokens, bytes, hscan, hhold⟩ := h.made
  obtain ⟨last, hlast, hlt⟩ := h.encoding.packed
  have hne : b.contents ≠ [] := fun hnil => by
    rw [← length_contents hb, hnil] at h1
    exact absurd h1 (by decide)
  rw [← hc, List.getLast?_append_of_ne_nil _ hne] at hlast
  exact
    { encoding :=
        { live := h.encoding.live, packed := ⟨last, hlast, hlt⟩, tables := h.encoding.tables
          geometry := h.encoding.geometry, cursor := h.encoding.cursor, firstTwo := h.encoding.firstTwo
          inBufWf := h.encoding.inBufWf, outBufWf := hb }
      modeIs := h.modeIs, dictIs := h.dictIs
      made := ⟨tokens, bytes, ⟨hscan.spells, hscan.unscanned, hscan.history⟩,
        hhold.drained h.encoding.outBufWf hb hc h1⟩ }

/-- The buffer of a unit that is taking input holds the byte being filled. -/
theorem IUnit.Encoding.outBuf_pos (h : i.Encoding k) : 1 ≤ i.outBuf.size := by
  obtain ⟨done, last, -, -, hsize, -⟩ := packed_split h.outBufWf h.packed
  omega

/-! ### The stream -/

/-- The bytes `packed` are a stream: their bits are those of the header, of tokens that spell `out`, and of END, in no more
bytes than they need and one (R253, R264). -/
def PackedStream (k : CodeTables) (mode : CompressionMode) (dict : DictionarySize) (packed out : List Byte) : Prop :=
  ∃ tokens, Spells dict [] tokens out ∧
    bytesToNat packed = ((streamCode k mode dict tokens).followedBy (encode k (.token mode) .endToken)).bits ∧
    bytesToNat packed < 2 ^ ((streamCode k mode dict tokens).followedBy (encode k (.token mode) .endToken)).width ∧
    ((streamCode k mode dict tokens).followedBy (encode k (.token mode) .endToken)).width ≤ 8 * packed.length

theorem bytesToNat_lt_position {j : IUnit} {code : Code} (h : j.Holds sent code) (hb : j.outBuf.wf = true)
    (hp : j.Packed) : bytesToNat (sent ++ j.outBuf.contents) < 2 ^ code.width ∧
      code.width ≤ 8 * (sent ++ j.outBuf.contents).length := by
  obtain ⟨done, last, hcon, hlt, -, hpos⟩ := packed_split hb hp
  have hbits := j.outBits.isLt
  have hwidth := h.position
  rw [hpos] at hwidth
  rw [hcon]
  constructor
  · rw [← List.append_assoc, bytesToNat_append, ← Nat.shiftLeft_eq]
    have hfit := two_fields_fit (bytesToNat_lt (sent ++ done)) (v := bytesToNat [last]) (k := j.outBits.toNat)
      (by simpa [bytesToNat] using hlt)
    rwa [List.length_append, show 8 * (sent.length + done.length) + j.outBits.toNat = code.width by omega,
      ← List.length_append] at hfit
  · simp only [List.length_append, List.length_singleton]
    omega

/-- With everything scanned, END completes the stream (R262). -/
theorem Compressing.emitEnd (hk : k.legal = true) (h : Compressing k mode dict sent pushed i)
    (hdone : i.cursor = i.inBuf.size) :
    ∃ j, emitEnd i = .next j ∧ j.outBuf.wf = true ∧ PackedStream k mode dict (sent ++ j.outBuf.contents) pushed := by
  obtain ⟨tokens, out, hscan, hhold⟩ := h.made
  obtain ⟨j, hj, hw⟩ := emitEnd_writes hk h.encoding
  rw [h.modeIs] at hw
  have hold := hhold.writes hw
  obtain ⟨hlt, hle⟩ := bytesToNat_lt_position hold hw.outBufWf hw.packed
  have hout : out = pushed := by
    have := hscan.unscanned
    rwa [hdone, ← length_contents h.encoding.inBufWf, List.drop_length, List.append_nil] at this
  exact ⟨j, hj, hw.outBufWf, tokens, hout ▸ hscan.spells, hold.bits, hlt, hle⟩

theorem four_bytes {s : List Byte} (h : 4 ≤ s.length) : ∃ m d seed next rest, s = m :: d :: seed :: next :: rest := by
  match s, h with
  | m :: d :: seed :: next :: rest, _ => exact ⟨m, d, seed, next, rest, rfl⟩

/-- The header bytes are the low 16 bits of a stream. -/
theorem header_of_bytesToNat {m d m' d' : Byte} {rest : List Byte} {x : Nat}
    (h : bytesToNat (m :: d :: rest) = bytesToNat [m', d'] + x <<< 16) : m = m' ∧ d = d' ∧ bytesToNat rest = x := by
  have hm := m.isLt
  have hd := d.isLt
  have hm' := m'.isLt
  have hd' := d'.isLt
  simp only [bytesToNat, Nat.shiftLeft_eq] at h
  refine ⟨BitVec.eq_of_toNat_eq ?_, BitVec.eq_of_toNat_eq ?_, ?_⟩ <;> omega

/-- A stream decompresses to what its tokens spell (R218, R265). -/
theorem PackedStream.explodeSummary (hk : k.legal = true) {packed out : List Byte}
    (h : PackedStream k mode dict packed out) :
    explodeSummary k packed = (out, .done, .none) := by
  obtain ⟨tokens, hspells, hbits, hlt, hle⟩ := h
  obtain ⟨hend, hend10⟩ := end_width hk mode
  rw [streamCode, Code.followedBy_assoc] at hbits hlt hle
  have hstarts := fun r : BitReader => explodeRest_spells (mode := mode) (r := r) hk hspells
  have hwidth : 10 ≤ ((tokensCode k mode dict tokens).followedBy (encode k (.token mode) .endToken)).width := by
    rw [Code.followedBy_width, hend]
    omega
  generalize (tokensCode k mode dict tokens).followedBy (encode k (.token mode) .endToken) = code at *
  rw [Code.followedBy_width] at hlt hle
  rw [Code.followedBy_bits] at hbits
  have h16 : (headerCode mode dict).width = 16 := rfl
  rw [h16] at hbits hlt hle
  obtain ⟨m, d, seed, next, rest, rfl⟩ := four_bytes (show 4 ≤ packed.length by omega)
  obtain ⟨rfl, rfl, hseed⟩ := header_of_bytesToNat hbits
  have hfits : code.bits < 2 ^ code.width := by
    rw [hbits, Nat.shiftLeft_eq, Nat.pow_add, Nat.mul_comm] at hlt
    exact Nat.lt_of_mul_lt_mul_left (Nat.lt_of_le_of_lt (Nat.le_add_left ..) hlt)
  rw [explodeSummary_tokens (mode := mode) (dict := dict) hk (by cases mode <;> rfl) (by cases dict <;> rfl)]
  refine hstarts _ (seedReader_wf seed _) ⟨?_, ?_⟩
  · simp only [List.length_cons] at hle
    rw [seedReader_avail, List.length_cons]
    omega
  · rw [seedReader_bits, hseed, Nat.mod_eq_of_lt hfits]

end
end Sys2Proof.Machine
end

section
/-! SUPPORT. A session with the IMPLODE unit makes such a stream, and O60. -/

namespace Sys2Proof.Machine

/-! ### A session with the IMPLODE unit -/

/-- The block between two commands of a session with the IMPLODE unit, when the host has pushed the bytes `pushed`. -/
structure Compresses (cfg : Config) (mode : CompressionMode) (dict : DictionarySize) (pushed : List Byte) (s : State) :
    Prop where
  params : s.cfg = cfg
  space : s.x.space? = none
  state : s.i.istate = .accumulating
  unit : Compressing cfg.tables mode dict s.delivered pushed s.i

section
variable {cfg : Config} {mode : CompressionMode} {dict : DictionarySize} {pushed bytes : List Byte} {s : State}
  {rest : List HostCommand}

/-- `I.RESET` of the host begins a stream (R231, R48). -/
theorem compresses_reset (hcfg : cfg.legal = true) (mode : CompressionMode) (dict : DictionarySize)
    (commands : List HostCommand) :
    ∃ t, step { State.resetWith cfg with host := ⟨4, [mode.toByte, dict.toByte]⟩ :: commands } = .next t ∧
      t.host = commands ∧ t.responses.length = 1 ∧ Compresses cfg mode dict [] t := by
  have hlegal : ({ State.resetWith cfg with host := commands } : State).cfg.tables.legal = true := (config_legal hcfg).2.2
  have hcmd := step_of_command
    (s := { State.resetWith cfg with host := ⟨4, [mode.toByte, dict.toByte]⟩ :: commands })
    (i := .iReset mode.toByte dict.toByte) (space_resetWith cfg) rfl rfl
  have hexec : exec (.iReset mode.toByte dict.toByte) { State.resetWith cfg with host := commands } =
      .next (({ State.resetWith cfg with host := commands, i := setupI cfg.tables mode dict } : State).respond
        ⟨.ready, .none, []⟩) :=
    withLegalTables_eq_next.2 ⟨hlegal, by cases mode <;> cases dict <;> rfl⟩
  exact ⟨_, hcmd.trans hexec, rfl, rfl, rfl, space_resetWith cfg, rfl, compressing_setupI cfg.tables mode dict⟩

theorem execIPush_accumulating {i : IUnit} {b : Buffer} {out : List Byte} (hl : s.i.live = true)
    (hi : s.i.istate = .accumulating)
    (hscan : scanLoop s.cfg.tables s.cfg.lookaheadHold { s.i with inBuf := s.i.inBuf.append bytes } = .next i)
    (hdrain : drain s.cfg.blockI i.outBuf = .next (b, out)) :
    exec (.iPush bytes) s =
      .next (({ s with i := { i with outBuf := b, istate := .accumulating } } : State).respond ⟨.ready, .none, out⟩) := by
  change execIPush bytes s = _
  simp only [hl, hi] at hscan
  simp [execIPush, hl, hi, hscan, hdrain]

theorem execIFinish_accumulating {i j : IUnit} (hl : s.i.live = true) (hi : s.i.istate = .accumulating)
    (hscan : scanLoop s.cfg.tables s.cfg.lookaheadHold { s.i with streamEnded := true } = .next i)
    (hend : emitEnd i = .next j) (hb : j.outBuf.wf = true) :
    exec .iFinish s =
      .next (({ s with i := { j with outBuf := j.outBuf.clear, istate := .finalized } } : State).respond
        ⟨.done, .none, j.outBuf.contents⟩) := by
  change execIFinish s = _
  simp only [hl, hi] at hscan
  simp [execIFinish, hl, hi, hscan, hend, readBytes_all hb]

/-- An `I.PUSH` of the host: one answer, and the unit has been pushed its bytes (R260). -/
theorem compresses_push (hcfg : cfg.legal = true) (h : Compresses cfg mode dict pushed s)
    (hh : s.host = ⟨5, bytes⟩ :: rest) :
    ∃ t, step s = .next t ∧ t.host = rest ∧ t.responses.length = s.responses.length + 1 ∧
      Compresses cfg mode dict (pushed ++ bytes) t := by
  obtain ⟨rfl, hspace, hstate, hunit⟩ := h
  obtain ⟨-, hblock, hk⟩ := config_legal hcfg
  obtain ⟨i, hscan, hcomp, -, -⟩ := (hunit.append bytes).scanLoop hk s.cfg.lookaheadHold
  obtain ⟨b, out, hdrain, hc, hb, hsize⟩ := drain_spec hcomp.encoding.outBufWf hblock
  have hpos := hcomp.encoding.outBuf_pos
  have hcmd := step_of_command (i := .iPush bytes) hspace hh rfl
  rw [execIPush_accumulating (s := { s with host := rest }) hunit.encoding.live hstate hscan hdrain] at hcmd
  refine ⟨_, hcmd, rfl, by simp, rfl, hspace, rfl, ?_⟩
  rw [delivered_respond]
  exact hcomp.drained hb hc (by omega)

/-- The pushes of a session, one after the other. -/
theorem compresses_pushes (hcfg : cfg.legal = true) (chunks : List (List Byte)) (h : Compresses cfg mode dict pushed s)
    (hh : s.host = chunks.map (fun c => ⟨5, c⟩) ++ rest) :
    ∃ t, Reaches s t ∧ t.host = rest ∧ t.responses.length = s.responses.length + chunks.length ∧
      Compresses cfg mode dict (pushed ++ chunks.flatten) t := by
  induction chunks generalizing pushed s with
  | nil => exact ⟨s, reaches_refl s, hh, rfl, by rwa [List.flatten_nil, List.append_nil]⟩
  | cons c chunks ih =>
    obtain ⟨t₁, hstep₁, hhost₁, hresp₁, h₁⟩ := compresses_push hcfg h hh
    obtain ⟨t, hreach, hhost, hresp, h'⟩ := ih h₁ hhost₁
    refine ⟨t, (reaches_of_step hstep₁).trans hreach, hhost, ?_, ?_⟩
    · rw [hresp, hresp₁, List.length_cons]; omega
    · rwa [List.flatten_cons, ← List.append_assoc]

/-- Where the input has ended, the scan goes on to its end (R237). -/
theorem cursor_of_enabled_false {k : CodeTables} {hold : Bool} {i : IUnit} (h : i.Encoding k)
    (hend : i.streamEnded = true) (hoff : enabled hold i = false) : i.cursor = i.inBuf.size := by
  rw [enabled, hend, Bool.true_or, Bool.and_true, decide_eq_false_iff_not] at hoff
  have := h.cursor.1
  omega

/-- `I.FINISH` of the host: the last answer is DONE, and what has been handed out is a stream (R262). -/
theorem compresses_finish (hcfg : cfg.legal = true) (h : Compresses cfg mode dict pushed s)
    (hh : s.host = ⟨6, []⟩ :: rest) :
    ∃ t last, step s = .next t ∧ t.x.space? = none ∧ t.host = rest ∧ t.responses = s.responses ++ [last] ∧
      (last.status, last.err) = (.done, .none) ∧ PackedStream cfg.tables mode dict t.delivered pushed := by
  obtain ⟨rfl, hspace, hstate, hunit⟩ := h
  obtain ⟨-, -, hk⟩ := config_legal hcfg
  obtain ⟨i, hscan, hcomp, hoff, hended⟩ := hunit.ending.scanLoop hk s.cfg.lookaheadHold
  obtain ⟨j, hend, hb, hpacked⟩ := hcomp.emitEnd hk (cursor_of_enabled_false hcomp.encoding hended hoff)
  have hcmd := step_of_command (i := .iFinish) hspace hh rfl
  rw [execIFinish_accumulating (s := { s with host := rest }) hunit.encoding.live hstate hscan hend hb] at hcmd
  refine ⟨_, _, hcmd, hspace, rfl, rfl, rfl, ?_⟩
  rw [delivered_respond]
  exact hpacked

/-- A session with the IMPLODE unit makes a stream of the bytes pushed (R264). -/
theorem answers_implodeSession (hcfg : cfg.legal = true) (mode : CompressionMode) (dict : DictionarySize)
    (chunks : List (List Byte)) :
    ∃ packed, Answers cfg (implodeSession mode dict chunks) packed .done .none ∧
      PackedStream cfg.tables mode dict packed chunks.flatten := by
  obtain ⟨t₀, hstep₀, hhost₀, hresp₀, h₀⟩ :=
    compresses_reset hcfg mode dict (chunks.map (fun c => ⟨5, c⟩) ++ [⟨6, []⟩])
  obtain ⟨t₁, hreach₁, hhost₁, hresp₁, h₁⟩ := compresses_pushes hcfg chunks h₀ hhost₀
  rw [List.nil_append] at h₁
  obtain ⟨t, last, hstep, hspace, hhost, hresp, hlast, hpacked⟩ := compresses_finish hcfg h₁ hhost₁
  obtain ⟨n, hn⟩ := ((reaches_of_step hstep₀).trans hreach₁).trans (reaches_of_step hstep)
  refine ⟨t.delivered, ⟨n, t, hn, fetch_idle hspace hhost, ?_, rfl, ?_⟩, hpacked⟩
  · rw [hresp, List.length_append, hresp₁, hresp₀]
    simp [implodeSession]
    omega
  · rw [hresp, List.getLast?_append]
    exact congrArg some hlast

end

/-- Settles O60: the IMPLODE unit's stream has the bits of tokens that spell the input (the invariant `Compressing`), the
decoder reads those tokens back (`explodeRest_spells`), and by O56 every session on the stream gives its summary. -/
theorem roundTrip : Obligations.RoundTrip := by
  intro cfg mode dict chunks hcfg
  obtain ⟨packed, hanswers, hpacked⟩ := answers_implodeSession hcfg mode dict chunks
  refine ⟨packed, hanswers, fun chunks' hchunks => ?_⟩
  have h := answers_explodeSession hcfg chunks'
  rwa [hchunks, hpacked.explodeSummary (config_legal hcfg).2.2] at h

end Sys2Proof.Machine
end

section
/-! SUPPORT. The bit reader's invariant (42_explode_decode.md rule R181) through a decode: whatever the tables hold, a token
part that decodes leaves a reader that satisfies it. -/

namespace Sys2Proof

/-- `wasteBits` keeps the reader's invariant, for every width (R181, R183). -/
theorem wf_of_wasteBits {r r' : BitReader} {n : Nat} (hr : r.wf = true) (h : r.wasteBits n = some r') : r'.wf = true := by
  obtain ⟨he, hb⟩ := (BitReader.wf_iff r).1 hr
  rw [BitReader.wf_iff]
  unfold BitReader.wasteBits at h
  split at h
  · rename_i hle
    cases h
    have hx : (BitVec.ofNat 4 (r.extraBits.toNat - n)).toNat = r.extraBits.toNat - n := by
      rw [BitVec.toNat_ofNat]; omega
    rw [hx, BitVec.toNat_ushiftRight, Nat.shiftRight_eq_div_pow]
    refine ⟨by omega, Nat.div_lt_of_lt_mul ?_⟩
    rwa [← Nat.pow_add, show n + (8 + (r.extraBits.toNat - n)) = 8 + r.extraBits.toNat by omega]
  · rename_i hlt
    split at h
    · cases h
    · cases h
      have hx : (BitVec.ofNat 4 (r.extraBits.toNat + 8 - n)).toNat = r.extraBits.toNat + 8 - n := by
        rw [BitVec.toNat_ofNat]; omega
      simp only [hx]
      generalize r.bitBuffer >>> r.extraBits.toNat ||| _ = loaded
      rw [BitVec.toNat_ushiftRight, Nat.shiftRight_eq_div_pow]
      refine ⟨by omega, Nat.div_lt_of_lt_mul (Nat.lt_of_lt_of_le loaded.isLt ?_)⟩
      rw [← Nat.pow_add]
      exact Nat.pow_le_pow_right (by decide) (by omega)

/-- A decode that leaves a reader with the invariant, if it finds an instruction. -/
def Decoded.LeavesWf (d : Decoded) : Prop := ∀ i r, d = .instr i r → r.wf = true

theorem leavesWf_instr {r : BitReader} (hr : r.wf = true) (i : Instr) : (Decoded.instr i r).LeavesWf := by
  rintro _ _ ⟨⟩
  exact hr

theorem leavesWf_needMoreInput (r : BitReader) : (Decoded.needMoreInput r).LeavesWf := fun _ _ h => nomatch h

theorem leavesWf_wasteThen {r : BitReader} (hr : r.wf = true) {n : Nat} {f : BitReader → Decoded}
    (hf : ∀ r', r'.wf = true → (f r').LeavesWf) : (wasteThen r n f).LeavesWf := by
  unfold wasteThen
  split
  · exact leavesWf_needMoreInput r
  · exact hf _ (wf_of_wasteBits hr ‹_›)

theorem leavesWf_lookupThen {α : Type} {entry : Option α} {f : α → Decoded} (hf : ∀ v, (f v).LeavesWf) :
    (lookupThen entry f).LeavesWf := by
  cases entry with
  | none => exact fun _ _ h => nomatch h
  | some v => exact hf v

theorem leavesWf_decodeLength (k : CodeTables) (t : DecodeTables) {r : BitReader} (hr : r.wf = true) :
    (decodeLength k t r).LeavesWf := by
  refine leavesWf_lookupThen fun c => leavesWf_wasteThen hr fun r hr => ?_
  dsimp only
  split
  · exact leavesWf_instr hr _
  · split
    · exact leavesWf_instr (wf_of_wasteBits hr ‹_›) _
    · split
      · exact leavesWf_instr hr _
      · exact leavesWf_needMoreInput r

theorem leavesWf_decodeLiteralAscii (a : AsciiTables) {r : BitReader} (hr : r.wf = true) :
    (decodeLiteralAscii a r).LeavesWf := by
  have hfinish : ∀ (r : BitReader) (v : Byte), r.wf = true → (finishLiteralAscii a r v).LeavesWf := fun r v hr =>
    leavesWf_wasteThen hr fun r hr => leavesWf_instr hr _
  have hlevel : ∀ (n : Nat) (entry : BitReader → Option Byte),
      (wasteThen r n fun r => lookupThen (entry r) (finishLiteralAscii a r)).LeavesWf := fun n entry =>
    leavesWf_wasteThen hr fun r hr => leavesWf_lookupThen fun v => hfinish r v hr
  unfold decodeLiteralAscii
  dsimp only
  split
  · exact hlevel 8 _
  · refine leavesWf_lookupThen fun v => ?_
    split
    · split
      · exact hlevel 4 _
      · exact hlevel 6 _
    · exact hfinish r v hr

theorem leavesWf_decodeDistancePart (k : CodeTables) (t : DecodeTables) (n : Nat) (d : DictionarySize) (mask : BitVec 6)
    {r : BitReader} (hr : r.wf = true) : (decodeDistancePart k t n d mask r).LeavesWf := by
  refine leavesWf_lookupThen fun p => leavesWf_wasteThen hr fun r hr => ?_
  dsimp only
  split <;> exact leavesWf_wasteThen hr fun r hr => leavesWf_instr hr _

/-- Every decode in the stream keeps the reader's invariant (R181). -/
theorem leavesWf_decode (k : CodeTables) (t : DecodeTables) (sp : Space) {r : BitReader} (hr : r.wf = true) :
    (decode k t sp r).LeavesWf := by
  cases sp with
  | host => exact fun _ _ h => nomatch h
  | header =>
    change (decodeHeader r).LeavesWf
    unfold decodeHeader
    split
    · exact leavesWf_instr hr _
    · exact leavesWf_needMoreInput r
  | token mode =>
    refine leavesWf_wasteThen hr fun r hr => ?_
    split
    · exact leavesWf_decodeLength k t hr
    · cases mode with
      | binary => exact leavesWf_wasteThen hr fun r hr => leavesWf_instr hr _
      | ascii => exact leavesWf_lookupThen fun a => leavesWf_decodeLiteralAscii a hr
  | distance n d mask => exact leavesWf_decodeDistancePart k t n d mask hr

end Sys2Proof
end

section
/-! SUPPORT. The invariant of the EXPLODE unit (10_state.md) through each change a rule makes to the unit: the reader moves
on (R183), the snapshot (R208), a suspension (R213), an error (R307), the end of the stream (R212), the header (R205). -/

namespace Sys2Proof.Machine

/-! ### Undoing a token -/

/-- The snapshot brings the unit back to a good reader: what the invariant asks of a unit within a COPY (R209). -/
def XUnit.Restorable (x : XUnit) : Prop := ∃ x', x.restore = .next x' ∧ x'.inBuf.wf = true ∧ x'.reader.wf = true

theorem restorable_backup {x : XUnit} (hb : x.inBuf.wf = true) (hr : x.reader.wf = true) : x.backup.Restorable :=
  ⟨_, restore_eq_next.2 ⟨_, _, rfl, rfl, rfl⟩, hb, hr⟩

theorem restoreIndices_of_dropStart (b : Buffer) (n : Nat) : (b.dropStart n).restoreIndices = b.restoreIndices := by
  unfold Buffer.dropStart
  split
  · rfl
  · split <;> rfl

/-- What a decode consumed is undone by the restore (R213). -/
theorem restore_commit (x : XUnit) (r : BitReader) : (x.commit r).restore = x.restore := by
  unfold XUnit.restore
  rw [commit_snap, commit_inBuf, restoreIndices_of_dropStart]
  rfl

theorem suspend_commit (x : XUnit) (r : BitReader) : (x.commit r).suspend = x.suspend := by
  unfold XUnit.suspend
  rw [restore_commit]

theorem XUnit.Restorable.commit {x : XUnit} (h : x.Restorable) (r : BitReader) : (x.commit r).Restorable := by
  rwa [XUnit.Restorable, restore_commit]

/-- The restore does not look at the registers it sets, nor at those a token's execution sets. -/
theorem XUnit.Restorable.of_eq {x y : XUnit} (h : x.Restorable) (hsnap : y.snap = x.snap) (hin : y.inBuf = x.inBuf) :
    y.Restorable := by
  obtain ⟨x', hx, hb, hr⟩ := h
  obtain ⟨p, q, hp, hq, rfl⟩ := restore_eq_next.1 hx
  refine ⟨_, restore_eq_next.2 ⟨p, q, hsnap.trans hp, hin ▸ hq, rfl⟩, ?_, hr⟩
  rw [hin]
  exact hb

/-! ### The unit -/

section
variable {k : CodeTables} {x : XUnit}

/-- A unit right after its reset has the invariant (R47), and so has one that no RESET could make (U10). -/
theorem xInv_reset (k : CodeTables) (live : Bool) : ({ XUnit.reset k with live := live } : XUnit).Inv k where
  inBufWf := buffer_new_wf
  outBufWf := buffer_new_wf
  readerWf := rfl
  geometry := ⟨rfl, rfl⟩
  flags := rfl
  header := ⟨fun h => (nomatch h), fun _ => .inl rfl⟩
  error := ⟨⟨fun _ h => (nomatch h), fun _ => rfl⟩, fun h => nomatch h⟩
  denseTables := ⟨rfl, rfl⟩
  asciiTables := fun h => nomatch h
  noOutput := fun _ => rfl
  midCopy := fun _ h => nomatch h

theorem XUnit.Inv.noLength (h : x.Inv k) (hd : x.xstate ≠ .decoding) : x.repeatLength = none :=
  Option.eq_none_iff_forall_ne_some.2 fun n hn => hd (h.midCopy n hn).1

theorem XUnit.Inv.endOfStream (h : x.Inv k) : x.endOfStream = (x.xstate == .complete) := by
  have := h.flags
  simp only [XUnit.flagsAgree, Bool.and_eq_true, beq_iff_eq] at this
  exact this.1

theorem XUnit.Inv.needMoreInput (h : x.Inv k) : x.needMoreInput = (x.xstate == .suspended) := by
  have := h.flags
  simp only [XUnit.flagsAgree, Bool.and_eq_true, beq_iff_eq] at this
  exact this.2

theorem flagsAgree_iff (x : XUnit) : x.flagsAgree = true ↔
    x.endOfStream = (x.xstate == .complete) ∧ x.needMoreInput = (x.xstate == .suspended) := by
  simp [XUnit.flagsAgree]

/-- The decoder's tables are built wherever it runs (R343). -/
theorem XUnit.Inv.ready (h : x.Inv k) (hd : x.xstate = .decoding) : x.tables.ready k (.token x.mode) = true := by
  simp only [DecodeTables.ready, h.denseTables.1, h.denseTables.2, beq_self_eq_true, Bool.true_and, Bool.or_eq_true,
    bne_iff_ne, beq_iff_eq]
  by_cases hm : x.mode = .ascii
  · exact .inr (h.asciiTables hm (.inl hd))
  · exact .inl fun he => hm (Space.token.inj he)

/-- The reader moves on (R183). -/
theorem XUnit.Inv.commit (h : x.Inv k) {r : BitReader} (hr : r.wf = true) : (x.commit r).Inv k :=
  { h with
    inBufWf := commit_inBuf_wf r h.inBufWf
    readerWf := hr
    midCopy := fun n hn => by
      obtain ⟨hd, h2, hle, hundo⟩ := h.midCopy n hn
      exact ⟨hd, h2, hle, XUnit.Restorable.commit hundo r⟩ }

/-- `backup()` (R208). -/
theorem XUnit.Inv.backup (h : x.Inv k) : x.backup.Inv k :=
  { h with
    midCopy := fun n hn => by
      obtain ⟨hd, h2, hle, -⟩ := h.midCopy n hn
      exact ⟨hd, h2, hle, restorable_backup h.inBufWf h.readerWf⟩ }

/-- Once the header is parsed the output may be any (R207, R211, R283). -/
theorem XUnit.Inv.withOutBuf (h : x.Inv k) {b : Buffer} (hb : b.wf = true) (ha : x.xstate ≠ .awaitingHeader) :
    ({ x with outBuf := b } : XUnit).Inv k :=
  { h with
    outBufWf := hb
    noOutput := fun h' => absurd h' ha
    midCopy := fun n hn => by
      obtain ⟨hd, h2, hle, hundo⟩ := h.midCopy n hn
      exact ⟨hd, h2, hle, XUnit.Restorable.of_eq hundo rfl rfl⟩ }

/-- The length part of a COPY (R209). -/
theorem XUnit.Inv.withLength (h : x.Inv k) (hd : x.xstate = .decoding) {n : Nat} (h2 : 2 ≤ n) (hle : n ≤ 0x206)
    (hundo : x.Restorable) : ({ x with repeatLength := some n } : XUnit).Inv k :=
  { h with
    midCopy := fun m hm => by
      cases hm
      exact ⟨hd, h2, hle, hundo.of_eq rfl rfl⟩ }

/-- The distance part ends the COPY (R211). -/
theorem XUnit.Inv.withNoLength (h : x.Inv k) : ({ x with repeatLength := none } : XUnit).Inv k :=
  { h with midCopy := fun _ hn => nomatch hn }

/-- `raise K` (R307). -/
theorem XUnit.Inv.raised (h : x.Inv k) (hc : x.xstate ≠ .complete) {code : ErrorCode} (h0 : code ≠ .none)
    (h3 : code ≠ .invalidData) :
    ({ x with err := code, outBuf := x.outBuf.clear, xstate := .error, needMoreInput := false, repeatLength := none } :
      XUnit).Inv k :=
  { h with
    outBufWf := wf_clear h.outBufWf
    flags := (flagsAgree_iff _).2 ⟨by rw [h.endOfStream, beq_eq_false_iff_ne.2 hc]; rfl, rfl⟩
    header := ⟨fun _ he => (nomatch he), fun _ => .inr rfl⟩
    error := ⟨⟨fun he => absurd he h0, fun he => absurd rfl he⟩, h3⟩
    asciiTables := fun _ he => he.elim (fun he => (nomatch he)) fun he => nomatch he
    noOutput := fun he => nomatch he
    midCopy := fun _ hn => nomatch hn }

/-- What holds of a unit whose header is parsed and that has not failed (R32, R301). -/
theorem XUnit.Inv.headerDone (h : x.Inv k) (hs : x.xstate = .decoding ∨ x.xstate = .suspended) :
    x.headerParsed = true ∧ x.err = .none := by
  have ha : x.xstate ≠ .awaitingHeader ∧ x.xstate ≠ .error := by rcases hs with hs | hs <;> rw [hs] <;> decide
  exact ⟨Bool.eq_true_of_not_eq_false fun hf => (h.header.2 hf).elim ha.1 ha.2, h.error.1.2 ha.2⟩

/-- Past its header a unit changes its state, its reader and the flags together (R32, R203, R212, R213). -/
theorem XUnit.Inv.movedTo (h : x.Inv k) (hs : x.xstate = .decoding ∨ x.xstate = .suspended) {next : XState}
    {ended starved : Bool} {bitBuffer : BitVec 16} {extraBits : BitVec 4} {b : Buffer}
    {length : Option Nat}
    (hnext : next = .decoding ∨ next = .suspended ∨ next = .complete) (hended : ended = (next == .complete))
    (hstarved : starved = (next == .suspended)) (hb : b.wf = true)
    (hr : (BitReader.mk bitBuffer extraBits b.contents).wf = true) (hlength : length = none) :
    ({ x with xstate := next, endOfStream := ended, needMoreInput := starved, bitBuffer := bitBuffer,
              extraBits := extraBits, inBuf := b, repeatLength := length } : XUnit).Inv k := by
  obtain ⟨hparsed, herr⟩ := h.headerDone hs
  have ha : next ≠ .awaitingHeader ∧ next ≠ .error := by rcases hnext with rfl | rfl | rfl <;> decide
  exact { h with
    inBufWf := hb
    readerWf := hr
    flags := (flagsAgree_iff _).2 ⟨hended, hstarved⟩
    header := ⟨fun _ => ha.1, fun hf => absurd (hparsed.symm.trans hf) (by decide)⟩
    error := ⟨⟨fun _ => ha.2, fun _ => herr⟩, h.error.2⟩
    asciiTables := fun hm _ => h.asciiTables hm hs
    noOutput := fun he => absurd he ha.1
    midCopy := fun _ hn => absurd (hlength.symm.trans hn) (by simp) }

/-- `complete()` (R212). -/
theorem XUnit.Inv.complete (h : x.Inv k) (hd : x.xstate = .decoding) : x.complete.Inv k :=
  h.movedTo (.inl hd) (.inr (.inr rfl)) rfl (by rw [h.needMoreInput, hd]; rfl) h.inBufWf h.readerWf rfl

/-- `suspend()` (R213). -/
theorem XUnit.Inv.suspend (h : x.Inv k) (hd : x.xstate = .decoding) (hundo : x.Restorable) {y : XUnit}
    (hy : x.suspend = .next y) : y.Inv k ∧ y.xstate = .suspended := by
  obtain ⟨x', hx', hb, hr⟩ := hundo
  obtain ⟨z, hz, rfl⟩ := suspend_eq_next.1 hy
  obtain rfl : x' = z := Host.Outcome.next.inj (hx'.symm.trans hz)
  obtain ⟨p, q, -, -, rfl⟩ := restore_eq_next.1 hz
  exact ⟨h.movedTo (.inl hd) (.inr (.inl rfl)) (by rw [h.endOfStream, hd]; rfl) rfl hb hr rfl, rfl⟩

/-- More input, and the push goes on (R203, R213). -/
theorem XUnit.Inv.resumed (h : x.Inv k) (hs : x.xstate = .suspended) (bytes : List Byte) :
    ({ x with inBuf := x.inBuf.append bytes, xstate := .decoding, needMoreInput := false } : XUnit).Inv k :=
  h.movedTo (.inr hs) (.inl rfl) (by rw [h.endOfStream, hs]; rfl) rfl (wf_append h.inBufWf bytes) h.readerWf
    (h.noLength (by rw [hs]; decide))

/-- More input for the header (R204). -/
theorem XUnit.Inv.fed (h : x.Inv k) (ha : x.xstate = .awaitingHeader) (bytes : List Byte) :
    ({ x with inBuf := x.inBuf.append bytes } : XUnit).Inv k :=
  { h with
    inBufWf := wf_append h.inBufWf bytes
    midCopy := fun n hn => by
      rw [h.noLength (by rw [ha]; decide)] at hn
      cases hn }

/-- A legal header (R205). -/
theorem XUnit.Inv.parsed {s : State} (h : s.x.Inv s.cfg.tables) (ha : s.x.xstate = .awaitingHeader)
    (mode : CompressionMode) (dict : DictionarySize) (seed : Byte) : (s.parsed mode dict seed).x.Inv s.cfg.tables where
  inBufWf := wf_dropStart h.inBufWf 3
  outBufWf := h.outBufWf
  readerWf := seedReader_wf seed _
  geometry := ⟨rfl, rfl⟩
  flags := (flagsAgree_iff _).2 ⟨by
    change s.x.endOfStream = _
    rw [h.endOfStream, ha]
    rfl, rfl⟩
  header := ⟨fun _ he => (nomatch he), fun hf => (nomatch hf)⟩
  error := ⟨⟨fun _ he => (nomatch he), fun _ => h.error.1.2 (by rw [ha]; decide)⟩, h.error.2⟩
  denseTables := by cases mode <;> exact h.denseTables
  asciiTables := by
    rintro rfl -
    rfl
  noOutput := fun he => nomatch he
  midCopy := fun n hn => by
    change s.x.repeatLength = some n at hn
    rw [h.noLength (by rw [ha]; decide)] at hn
    cases hn

end
end Sys2Proof.Machine
end

section
/-! SUPPORT. The invariant of the block through the instructions of the EXPLODE unit: its token parts (R206 to R213), the
header (R205) and its commands (R200 to R217). -/

namespace Sys2Proof.Machine

/-! ### Parts of the block -/

/-- What the invariant asks of an answer (R301, R306). -/
def Response.Sound (r : Response) : Prop := (r.err = .none ↔ r.status ≠ .error) ∧ r.err ≠ .invalidData

theorem sound_of_status {status : Status} (h : status ≠ .error) (out : List Byte) :
    (Response.mk status .none out).Sound := ⟨⟨fun _ => h, fun _ => rfl⟩, fun he => nomatch he⟩

theorem sound_of_error {code : ErrorCode} (h0 : code ≠ .none) (h3 : code ≠ .invalidData) (out : List Byte) :
    (Response.mk .error code out).Sound := ⟨⟨fun h => absurd h h0, fun h => absurd rfl h⟩, h3⟩

section
variable {s t : State}

theorem State.Inv.withX (h : s.Inv) {x : XUnit} (hx : x.Inv s.cfg.tables) : ({ s with x := x } : State).Inv :=
  { h with x := hx }

theorem State.Inv.withI (h : s.Inv) {i : IUnit} (hi : i.Inv s.cfg.tables) : ({ s with i := i } : State).Inv :=
  { h with i := hi }

theorem State.Inv.withHost (h : s.Inv) (host : List HostCommand) : ({ s with host := host } : State).Inv :=
  { h with }

theorem State.Inv.respond (h : s.Inv) {r : Response} (hr : r.Sound) : (s.respond r).Inv :=
  { h with responses := fun q hq => (List.mem_append.1 hq).elim (h.responses q) fun hq => List.mem_singleton.1 hq ▸ hr }

/-! ### The end of a push -/

/-- `raise K` in the EXPLODE unit (R307). -/
theorem State.Inv.raiseX (h : s.Inv) (hc : s.x.xstate ≠ .complete) {code : ErrorCode} (h0 : code ≠ .none)
    (h3 : code ≠ .invalidData) (ht : raiseX code s = .next t) : t.Inv := by
  obtain ⟨out, -, rfl⟩ := raiseX_eq_next.1 ht
  exact (h.withX (h.x.raised hc h0 h3)).respond (sound_of_error h0 h3 out)

/-- The drain and the answer (R203, R283). -/
theorem State.Inv.finishPush (h : s.Inv) (hx : s.x.xstate = .suspended ∨ s.x.xstate = .complete)
    (ht : finishPush s = .next t) : t.Inv := by
  have hblock := (config_legal h.cfg).1
  obtain ⟨b, out, hf, -, hb, -⟩ := finishPush_spec h.x.outBufWf (Nat.le_trans (by decide) hblock)
  cases ht.symm.trans hf
  refine (h.withX (h.x.withOutBuf hb ?_)).respond (sound_of_status ?_ out) <;> rcases hx with hx | hx <;> rw [hx] <;>
    decide

/-- A token part that lacks input (R206, R213). -/
theorem State.Inv.suspendPush (h : s.Inv) (hd : s.x.xstate = .decoding) (hundo : s.x.Restorable) (r : BitReader)
    (ht : suspendPush { s with x := s.x.commit r } = .next t) : t.Inv := by
  obtain ⟨y, hy, hf⟩ := suspendPush_eq_next.1 ht
  rw [suspend_commit] at hy
  obtain ⟨hinv, hsus⟩ := h.x.suspend hd hundo hy
  exact (h.withX hinv).finishPush (.inl hsus) hf

/-! ### Token parts -/

/-- A token's execution (R206). A token above the literals and other than END is a length the format has, and can be
undone. -/
theorem State.Inv.executeToken (h : s.Inv) {n : Nat} (hn : 0x100 ≤ n → n ≤ endTokenNumber ∧ s.x.Restorable)
    (ht : executeToken n s = .next t) : t.Inv := by
  obtain ⟨hd, ⟨-, hf⟩ | ⟨hne, hge, rfl⟩ | ⟨-, rfl⟩⟩ := executeToken_eq_next.1 ht
  · exact (h.withX (h.x.complete hd)).finishPush (.inr rfl) hf
  · obtain ⟨hle, hundo⟩ := hn hge
    have hmost : n < 0x305 := Nat.lt_of_le_of_ne hle hne
    exact h.withX (h.x.withLength hd (by unfold repeatLengthOf; omega) (by unfold repeatLengthOf; omega) hundo)
  · exact h.withX (h.x.withOutBuf (wf_append h.x.outBufWf _) (by rw [hd]; decide))

/-- A distance part's execution (R192, R210, R211). -/
theorem State.Inv.executeDistance (h : s.Inv) {p : Nat} {low : BitVec 6} (ht : executeDistance p low s = .next t) :
    t.Inv := by
  obtain ⟨hd, n, -, ⟨-, hr⟩ | ⟨-, bytes, -, rfl⟩⟩ := executeDistance_eq_next.1 ht
  · exact h.raiseX (by rw [hd]; decide) (by decide) (by decide) hr
  · exact h.withX (h.x.withOutBuf (wf_append h.x.outBufWf bytes) (by rw [hd]; decide)).withNoLength

/-- The header (R205, R310). -/
theorem State.Inv.parseHeader (h : s.Inv) {m d seed : Byte} (ht : parseHeader m d seed s = .next t) : t.Inv := by
  obtain ⟨⟨ha, -⟩, ⟨-, hr⟩ | ⟨mode, -, ⟨-, hr⟩ | ⟨dict, -, rfl⟩⟩⟩ := parseHeader_eq_next.1 ht
  · exact h.raiseX (by rw [ha]; decide) (by decide) (by decide) hr
  · exact h.raiseX (by rw [ha]; decide) (by decide) (by decide) hr
  · exact h.withX (h.x.parsed ha mode dict seed)

/-- What is well formed at a token boundary has a token number the decoder may execute (R110, R111). -/
theorem State.Inv.exec_token (h : s.Inv) (hundo : s.x.Restorable) {mode : CompressionMode} {i : Instr}
    (hi : wellFormed s.cfg.tables (.token mode) i = true) (ht : exec i s = .next t) : t.Inv := by
  have hk := (config_legal h.cfg).2.2
  rcases token_shape hk hi with ⟨b, hs⟩ | rfl | ⟨c, e, hs, hc, he, hne⟩
  · rw [exec_literal hs] at ht
    exact h.executeToken (fun hge => absurd b.isLt (Nat.not_lt.2 hge)) ht
  · exact h.executeToken (n := endTokenNumber) (fun _ => ⟨Nat.le_refl _, hundo⟩) ht
  · rw [exec_length hs] at ht
    exact h.executeToken (fun _ => ⟨Nat.le_of_lt (lengthToken_bounds hk hc he hne).2, hundo⟩) ht

/-- What is well formed after a length part is a distance part (R108). -/
theorem State.Inv.exec_distance (h : s.Inv) {n : Nat} {d : DictionarySize} {mask : BitVec 6} {i : Instr}
    (hi : wellFormed s.cfg.tables (.distance n d mask) i = true) (ht : exec i s = .next t) : t.Inv := by
  obtain ⟨-, p, low, hp, -, rfl⟩ := distance_cases hi
  rw [Machine.exec_distance (shape_distancePart hp _)] at ht
  exact h.executeDistance ht

/-! ### A step of a running push -/

/-- What a running push reads next (R204, R206, R209). -/
theorem space_eq_some {x : XUnit} {sp : Space} (h : x.space? = some sp) :
    (x.xstate = .awaitingHeader ∧ 4 ≤ x.inBuf.size ∧ sp = .header) ∨
      (x.xstate = .decoding ∧ x.repeatLength = none ∧ sp = .token x.mode) ∨
      (x.xstate = .decoding ∧ ∃ n, x.repeatLength = some n ∧ sp = .distance n x.dictBits x.distMask) := by
  unfold XUnit.space? at h
  split at h
  · split at h
    · rename_i ha
      split at h
      · cases h
        exact .inl ⟨ha, ‹_›, rfl⟩
      · cases h
    · rename_i hd
      split at h <;> rename_i hn <;> cases h
      · exact .inr (.inl ⟨hd, hn, rfl⟩)
      · exact .inr (.inr ⟨hd, _, hn, rfl⟩)
    all_goals cases h
  · cases h

theorem step_of_unfilledEntry {sp : Space} (hsp : s.x.space? = some sp)
    (h : decode s.cfg.tables s.x.tables sp s.x.reader = .unfilledEntry) : step s = .refused .unfilledEntry := by
  have hb : decode s.cfg.tables (s.x.atBoundary sp).tables sp (s.x.atBoundary sp).reader = .unfilledEntry := by
    cases sp <;> exact h
  unfold step fetch fetchStream
  simp only [hsp, hb]

/-- The header is decoded where it lies: 4 bytes or more are there, and none is consumed (R101, R204). -/
theorem decode_header {k : CodeTables} {u : DecodeTables} {x : XUnit} (hb : x.inBuf.wf = true) (h4 : 4 ≤ x.inBuf.size) :
    ∃ m d seed, decode k u .header x.reader = .instr (.header m d seed) x.reader := by
  rw [← length_contents hb] at h4
  obtain ⟨m, d, seed, next, rest, hin⟩ := four_bytes h4
  refine ⟨m, d, seed, ?_⟩
  change decodeHeader x.reader = _
  have : x.reader.input = m :: d :: seed :: next :: rest := hin
  simp only [decodeHeader, this]

/-- A step that reads a token part: the unit after `backup()`, if at a token boundary, decodes it or is suspended (R206,
R208, R213). -/
theorem State.Inv.step_part (h : s.Inv) {sp : Space} (hsp : s.x.space? = some sp) (hstream : sp.inStream = true)
    (hready : s.x.tables.ready s.cfg.tables sp = true)
    (hat : (s.x.atBoundary sp).Inv s.cfg.tables) (hdat : (s.x.atBoundary sp).xstate = .decoding)
    (hundo : (s.x.atBoundary sp).Restorable)
    (hexec : ∀ (u : State) (i : Instr), u.Inv → u.x.Restorable → wellFormed u.cfg.tables sp i = true →
      exec i u = .next t → t.Inv) (ht : step s = .next t) : t.Inv := by
  have hk := (config_legal h.cfg).2.2
  cases hdec : decode s.cfg.tables s.x.tables sp s.x.reader with
  | instr i r =>
    rw [step_of_instr hsp hdec] at ht
    have hr := leavesWf_decode _ _ _ h.x.readerWf _ _ hdec
    exact hexec _ i (h.withX (hat.commit hr)) (hundo.commit r) (decode_reads hk hstream hready h.x.readerWf hdec).1 ht
  | needMoreInput r =>
    rw [step_of_needMoreInput hsp hdec] at ht
    exact (h.withX hat).suspendPush hdat hundo r ht
  | unfilledEntry =>
    rw [step_of_unfilledEntry hsp hdec] at ht
    cases ht

/-- Every step of a running push keeps the invariant. -/
theorem State.Inv.step_stream (h : s.Inv) {sp : Space} (hsp : s.x.space? = some sp) (ht : step s = .next t) : t.Inv := by
  rcases space_eq_some hsp with ⟨-, h4, rfl⟩ | ⟨hd, -, rfl⟩ | ⟨hd, n, hn, rfl⟩
  · obtain ⟨m, d, seed, hdec⟩ := decode_header (k := s.cfg.tables) (u := s.x.tables) h.x.inBufWf h4
    rw [step_of_instr hsp hdec] at ht
    exact (h.withX (h.x.commit h.x.readerWf)).parseHeader ht
  · exact h.step_part hsp rfl (h.x.ready hd) h.x.backup hd (restorable_backup h.x.inBufWf h.x.readerWf)
      (fun u i hu hundo hi => hu.exec_token hundo hi) ht
  · obtain ⟨-, h2, hle, hundo⟩ := h.x.midCopy n hn
    have hstream : (Space.distance n s.x.dictBits s.x.distMask).inStream = true := by
      simp [Space.inStream, h2, hle, h.x.geometry.1]
    exact h.step_part hsp hstream (ready_token (h.x.ready hd) ..) h.x hd hundo (fun u i hu _ hi => hu.exec_distance hi) ht

/-! ### The commands of the EXPLODE unit -/

/-- `X.RESET` (R201, R47). -/
theorem State.Inv.execXReset (h : s.Inv) (ht : execXReset s = .next t) : t.Inv := by
  obtain ⟨-, he⟩ := withLegalTables_eq_next.1 ht
  cases he
  exact (h.withX (xInv_reset _ true)).respond (sound_of_status (by decide) [])

/-- A unit in Error answers with its code (R217). -/
theorem XUnit.Inv.sound_error {k : CodeTables} {x : XUnit} (h : x.Inv k) (hx : x.xstate = .error) :
    (Response.mk .error x.err []).Sound := sound_of_error (fun h0 => h.error.1.1 h0 hx) h.error.2 []

/-- `X.PUSH` (R203, R204, R214, R217). -/
theorem State.Inv.execXPush (h : s.Inv) {bytes : List Byte} (ht : execXPush bytes s = .next t) : t.Inv := by
  unfold Machine.execXPush at ht
  split at ht
  · cases ht
  split at ht
  · cases ht
  split at ht <;> rename_i hx
  · cases ht
    exact h.respond (h.x.sound_error hx)
  · cases ht
    exact h.respond (sound_of_status (by decide) [])
  · have hfed := h.withX (h.x.fed hx bytes)
    cases ht
    split
    · exact hfed.respond (sound_of_status (by decide) [])
    · exact hfed
  · cases ht
    exact h.withX (h.x.resumed hx bytes)
  · cases ht

/-- `X.FINISH` (R215, R216, R217). -/
theorem State.Inv.execXFinish (h : s.Inv) (ht : execXFinish s = .next t) : t.Inv := by
  unfold Machine.execXFinish at ht
  split at ht
  · cases ht
  split at ht
  · cases ht
  split at ht <;> rename_i hx
  · cases ht
    exact h.respond (h.x.sound_error hx)
  · obtain ⟨out, -, he⟩ := andThen_eq_next.1 ht
    cases he
    exact (h.withX (h.x.withOutBuf (wf_clear h.x.outBufWf) (by rw [hx]; decide))).respond
      (sound_of_status (by decide) out)
  · exact h.raiseX (by rw [hx]; decide) (by decide) (by decide) ht
  · exact h.raiseX (by rw [hx]; decide) (by decide) (by decide) ht
  · cases ht

end
end Sys2Proof.Machine
end

section
/-! SUPPORT. The invariant of the IMPLODE unit (10_state.md rules R24, R39, R40, R43) through the scan (R236 to R240, R258,
R260), from any unit that is taking input, and through the unit's commands (R231, R260 to R263). -/

namespace Sys2Proof.Machine

/-! ### The unit while it takes input -/

section
variable {k : CodeTables} {i j u : IUnit}

/-- Another window on the input, with the cursor in it (R40, R258). -/
theorem IUnit.Encoding.withInput (h : i.Encoding k) {b : Buffer} {n : Nat} (hb : b.wf = true) (hn : n ≤ b.size)
    (hw : n < i.window.toNat) (hfirst : i.handledFirstTwoBytes = false → n = 0) :
    ({ i with inBuf := b, cursor := n } : IUnit).Encoding k :=
  { h with cursor := ⟨hn, hw⟩, firstTwo := hfirst, inBufWf := hb }

theorem IUnit.Encoding.withFlag (h : i.Encoding k) : ({ i with handledFirstTwoBytes := true } : IUnit).Encoding k :=
  { h with firstTwo := fun hf => nomatch hf }

theorem IUnit.Encoding.ending (h : i.Encoding k) : ({ i with streamEnded := true } : IUnit).Encoding k :=
  { h with }

theorem IUnit.Encoding.window (h : i.Encoding k) : 1024 ≤ i.window.toNat :=
  h.geometry.2 ▸ (window_toNat i.dictBits).2

/-- The unit `j` comes from `i` by a part of the scan: it is still taking input, and the registers that a scan has no
rule for are as they were. -/
structure IUnit.Continues (k : CodeTables) (i j : IUnit) : Prop where
  encoding : j.Encoding k
  err : j.err = i.err
  ended : j.streamEnded = i.streamEnded

theorem IUnit.Continues.trans (h : i.Continues k j) (h' : j.Continues k u) : i.Continues k u :=
  ⟨h'.encoding, h'.err.trans h.err, h'.ended.trans h.ended⟩

/-- Bits that were written (R252). -/
theorem IUnit.Encoding.continues_of_writes (h : i.Encoding k) {code : Code} (hw : i.Writes code j) : i.Continues k j :=
  ⟨h.of_writes hw, by rw [hw.eq], by rw [hw.eq]⟩

/-- A token that was written and passed by the cursor, then the eviction (R240, R258). -/
theorem IUnit.Encoding.advance (h : i.Encoding k) {code : Code} (hw : i.Writes code j) {size : Nat}
    (hsize : i.cursor + size ≤ i.inBuf.size) (hmost : size ≤ 0x204) (hfirst : i.handledFirstTwoBytes = true) :
    i.Continues k (evict { j with cursor := i.cursor + size }) := by
  have henc := h.of_writes hw
  have hin : j.inBuf = i.inBuf := by rw [hw.eq]
  have hwin : j.window = i.window := by rw [hw.eq]
  have hflag : j.handledFirstTwoBytes = true := by rw [hw.eq]; exact hfirst
  obtain ⟨n, b, hev, hcon, hb, hn, hlt⟩ := evict_spec { j with cursor := i.cursor + size } henc.inBufWf
  have hbs : b.size = i.inBuf.size - n := by
    rw [← length_contents hb, hcon, List.length_drop, length_contents henc.inBufWf, hin]
  have hcursor := h.cursor.2
  have hleast := h.window
  rw [hev]
  simp only [hwin] at hn hlt
  refine ⟨henc.withInput hb ?_ ?_ fun hf => ?_, by rw [hw.eq], by rw [hw.eq]⟩
  · dsimp only
    omega
  · rw [hwin]
    exact hlt (by omega) hleast
  · rw [hflag] at hf
    cases hf

/-- A scan step (R240). -/
theorem IUnit.Encoding.scanStep (hk : k.legal = true) (h : i.Encoding k) (hlt : i.cursor < i.inBuf.size)
    (hfirst : i.handledFirstTwoBytes = true) (hu : scanStep k i = .next u) : i.Continues k u := by
  obtain ⟨j, ⟨hf, hj⟩ | ⟨-, b, w, -, hw, rfl⟩, rfl⟩ := scanStep_eq_next.1 hu
  · obtain ⟨m, size, heq, hm, h2, hmost, hin, -⟩ := findRepetitions_spec hf
    rw [heq] at hf hj
    obtain ⟨v, hv, hwrites⟩ := emitMatch_writes hk h h2 hmost hf (by have := h.cursor.2; omega)
    cases hj.symm.trans hv
    exact h.advance hwrites (length_contents h.inBufWf ▸ hin) hmost hfirst
  · obtain ⟨v, hv, hwrites⟩ := emitLiteral_writes hk h i.dictBits b
    cases hw.symm.trans hv
    have hcur : w.cursor = i.cursor := by rw [hwrites.eq]
    rw [hcur]
    exact h.advance hwrites hlt (by decide) hfirst

/-- The first two bytes (R236). -/
theorem IUnit.Encoding.firstTwoBytes (hk : k.legal = true) (h : i.Encoding k) (hu : firstTwoBytes i = .next u) :
    i.Continues k u := by
  rcases firstTwoBytes_eq_next.1 hu with ⟨-, rfl⟩ | ⟨h3, b0, b1, v, w, -, hv, -, hw, rfl⟩
  · exact ⟨h.withFlag, rfl, rfl⟩
  · obtain ⟨v', hv', hwrites⟩ := emitLiteral_writes hk h.withFlag i.dictBits b0
    cases hv.symm.trans hv'
    have hcv := h.withFlag.continues_of_writes hwrites
    obtain ⟨w', hw', hwrites'⟩ := emitLiteral_writes hk hcv.encoding i.dictBits b1
    cases hw.symm.trans hw'
    have hcw := hcv.trans (hcv.encoding.continues_of_writes hwrites')
    have hin : w.inBuf = i.inBuf := by rw [hwrites'.eq, hwrites.eq]
    have hflag : w.handledFirstTwoBytes = true := by rw [hwrites'.eq, hwrites.eq]
    refine ⟨hcw.encoding.withInput hcw.encoding.inBufWf (by rw [hin]; omega) ?_ fun hf => ?_, hcw.err, hcw.ended⟩
    · exact Nat.lt_of_lt_of_le (by decide) hcw.encoding.window
    · rw [hflag] at hf
      cases hf

/-- The scan, however far it goes (R260). -/
theorem IUnit.Encoding.scanRounds (hk : k.legal = true) (hold : Bool) (fuel : Nat) (h : i.Encoding k)
    (hu : scanRounds k hold fuel i = .next u) : i.Continues k u := by
  induction fuel generalizing i with
  | zero =>
    cases hu
    exact ⟨h, rfl, rfl⟩
  | succ fuel ih =>
    rcases scanRounds_succ_eq_next.1 hu with ⟨-, rfl⟩ | ⟨hen, j, hj, hrest⟩
    · exact ⟨h, rfl, rfl⟩
    · have hround : i.Continues k j := by
        cases hfirst : i.handledFirstTwoBytes with
        | false =>
          rw [hfirst] at hj
          exact h.firstTwoBytes hk hj
        | true =>
          rw [hfirst] at hj
          rw [enabled, Bool.and_eq_true] at hen
          exact h.scanStep hk (of_decide_eq_true hen.1) hfirst hj
      exact hround.trans (ih hround.encoding hrest)

theorem IUnit.Encoding.scanLoop (hk : k.legal = true) {hold : Bool} (h : i.Encoding k)
    (hu : scanLoop k hold i = .next u) : i.Continues k u :=
  h.scanRounds hk hold _ hu

/-- More bytes to scan (R260). -/
theorem IUnit.Encoding.append (h : i.Encoding k) (bytes : List Byte) :
    ({ i with inBuf := i.inBuf.append bytes } : IUnit).Encoding k :=
  h.withInput (n := i.cursor) (wf_append h.inBufWf bytes)
    (by rw [size_append h.inBufWf]; exact Nat.le_add_right_of_le h.cursor.1) h.cursor.2 h.firstTwo

/-- A drain leaves the byte that is being filled (R39, R284). -/
theorem IUnit.Encoding.drained (h : i.Encoding k) {block : Nat} (hblock : 1 ≤ block) {b : Buffer} {out : List Byte}
    (hd : drain block i.outBuf = .next (b, out)) : ({ i with outBuf := b } : IUnit).Encoding k := by
  obtain ⟨b', out', hd', hc, hb, hsize⟩ := drain_spec h.outBufWf hblock
  cases hd.symm.trans hd'
  obtain ⟨last, hlast, hlt⟩ := h.packed
  have hpos := h.outBuf_pos
  have hne : b.contents ≠ [] := fun hnil => by
    rw [← length_contents hb, hnil] at hsize
    simp only [List.length_nil] at hsize
    omega
  rw [← hc, List.getLast?_append_of_ne_nil _ hne] at hlast
  exact { h with packed := ⟨last, hlast, hlt⟩, outBufWf := hb }

/-! ### The unit between commands -/

/-- A unit that is taking input, and is neither at the end of its stream nor failed (R38, R42). -/
theorem IUnit.Encoding.inv (h : i.Encoding k) (hstate : i.istate = .accumulating) (herr : i.err = .none)
    (hended : i.streamEnded = false) : i.Inv k where
  inBufWf := h.inBufWf
  outBufWf := h.outBufWf
  geometry := h.geometry
  settled := fun _ => by rw [hstate]; decide
  error := ⟨⟨fun _ => by rw [hstate]; decide, fun _ => herr⟩, .inl herr⟩
  accumulating := fun _ => ⟨h, hended⟩

/-- A unit whose stream is complete (R262). -/
theorem IUnit.Encoding.inv_finalized (h : i.Encoding k) (herr : i.err = .none) :
    ({ i with outBuf := i.outBuf.clear, istate := .finalized } : IUnit).Inv k where
  inBufWf := h.inBufWf
  outBufWf := wf_clear h.outBufWf
  geometry := h.geometry
  settled := fun _ => ⟨fun he => (nomatch he), fun he => (nomatch he)⟩
  error := ⟨⟨fun _ he => (nomatch he), fun _ => herr⟩, .inl herr⟩
  accumulating := fun hs => nomatch hs

/-- A unit that was never reset (R49). -/
theorem iInv_blank (k : CodeTables) : IUnit.blank.Inv k where
  inBufWf := buffer_new_wf
  outBufWf := buffer_new_wf
  geometry := ⟨rfl, rfl⟩
  settled := fun hl => nomatch hl
  error := ⟨⟨fun _ => by decide, fun _ => rfl⟩, .inl rfl⟩
  accumulating := fun hs => nomatch hs

/-- A unit whose RESET had illegal operands (R304). -/
theorem iInv_rejected (k : CodeTables) {code : ErrorCode}
    (hcode : code = .invalidCompressionType ∨ code = .invalidDictionarySize) :
    ({ IUnit.blank with live := true, err := code, outBuf := Buffer.new.clear, istate := .error } : IUnit).Inv k where
  inBufWf := buffer_new_wf
  outBufWf := wf_clear buffer_new_wf
  geometry := ⟨rfl, rfl⟩
  settled := fun _ => ⟨fun he => (nomatch he), fun he => (nomatch he)⟩
  error := ⟨⟨fun h => by rcases hcode with rfl | rfl <;> exact (nomatch h), fun h => absurd rfl h⟩, .inr hcode⟩
  accumulating := fun hs => nomatch hs

/-- A unit right after its RESET (R231). -/
theorem iInv_setupI (k : CodeTables) (mode : CompressionMode) (dict : DictionarySize) : (setupI k mode dict).Inv k :=
  (compressing_setupI k mode dict).encoding.inv rfl rfl rfl

/-- A unit in Error answers with its code (R263). -/
theorem IUnit.Inv.sound_error (h : i.Inv k) (hx : i.istate = .error) : (Response.mk .error i.err []).Sound := by
  refine sound_of_error (fun h0 => h.error.1.1 h0 hx) ?_ []
  rcases h.error.2 with he | he | he <;> rw [he] <;> decide

theorem IUnit.Inv.err_none (h : i.Inv k) (ha : i.istate = .accumulating) : i.err = .none :=
  h.error.1.2 (by rw [ha]; decide)

end

/-! ### The commands of the IMPLODE unit -/

section
variable {s t : State}

/-- `I.RESET` (R231, R304). -/
theorem State.Inv.execIReset (h : s.Inv) {m d : Byte} (ht : execIReset m d s = .next t) : t.Inv := by
  obtain ⟨-, he⟩ := withLegalTables_eq_next.1 ht
  dsimp only at he
  split at he
  · obtain ⟨out, -, rfl⟩ := raiseI_eq_next.1 he
    exact (h.withI (iInv_rejected _ (.inl rfl))).respond (sound_of_error (by decide) (by decide) out)
  · split at he
    · obtain ⟨out, -, rfl⟩ := raiseI_eq_next.1 he
      exact (h.withI (iInv_rejected _ (.inr rfl))).respond (sound_of_error (by decide) (by decide) out)
    · cases he
      exact (h.withI (iInv_setupI _ _ _)).respond (sound_of_status (by decide) [])

/-- `I.PUSH` (R260, R263). -/
theorem State.Inv.execIPush (h : s.Inv) {bytes : List Byte} (ht : execIPush bytes s = .next t) : t.Inv := by
  obtain ⟨-, hblock, hk⟩ := config_legal h.cfg
  unfold Machine.execIPush at ht
  split at ht
  · cases ht
  split at ht <;> rename_i hx
  · cases ht
    exact h.respond (h.i.sound_error hx)
  · cases ht
    exact h.respond (sound_of_status (by decide) [])
  · obtain ⟨henc, hended⟩ := h.i.accumulating hx
    obtain ⟨u, hscan, ht⟩ := andThen_eq_next.1 ht
    obtain ⟨⟨b, out⟩, hdrain, ht⟩ := andThen_eq_next.1 ht
    cases ht
    have hu := (henc.append bytes).scanLoop hk hscan
    have hb := hu.encoding.drained hblock hdrain
    exact (h.withI (IUnit.Encoding.inv (i := { u with outBuf := b, istate := .accumulating }) { hb with } rfl
      (hu.err.trans (h.i.err_none hx)) (hu.ended.trans hended))).respond (sound_of_status (by decide) out)
  all_goals cases ht

/-- `I.FINISH` (R262, R263). -/
theorem State.Inv.execIFinish (h : s.Inv) (ht : execIFinish s = .next t) : t.Inv := by
  have hk := (config_legal h.cfg).2.2
  unfold Machine.execIFinish at ht
  split at ht
  · cases ht
  split at ht <;> rename_i hx
  · cases ht
    exact h.respond (h.i.sound_error hx)
  · cases ht
    exact h.respond (sound_of_status (by decide) [])
  · obtain ⟨henc, -⟩ := h.i.accumulating hx
    obtain ⟨u, hscan, ht⟩ := andThen_eq_next.1 ht
    obtain ⟨v, hend, ht⟩ := andThen_eq_next.1 ht
    obtain ⟨out, -, ht⟩ := andThen_eq_next.1 ht
    cases ht
    have hu := henc.ending.scanLoop hk hscan
    obtain ⟨v', hv', hwrites⟩ := emitEnd_writes hk hu.encoding
    cases hend.symm.trans hv'
    have hv := hu.trans (hu.encoding.continues_of_writes hwrites)
    exact (h.withI (hv.encoding.inv_finalized (hv.err.trans (h.i.err_none hx)))).respond (sound_of_status (by decide) out)
  all_goals cases ht

end
end Sys2Proof.Machine
end

section
/-! SUPPORT. The host's commands as instructions (30_encoding.md rule R117), and the step: O2, O3 and O4. -/

namespace Sys2Proof

/-- The instructions that are commands (R117). -/
theorem command_cases {i : Instr} {c : HostCommand} (h : i.shape = .command c) :
    (i = .xReset ∨ (∃ bytes, i = .xPush bytes) ∨ i = .xFinish) ∨
      ((∃ m d, i = .iReset m d) ∨ (∃ bytes, i = .iPush bytes) ∨ i = .iFinish) := by
  cases i with
  | xReset => exact .inl (.inl rfl)
  | xPush bytes => exact .inl (.inr (.inl ⟨bytes, rfl⟩))
  | xFinish => exact .inl (.inr (.inr rfl))
  | iReset m d => exact .inr (.inl ⟨m, d, rfl⟩)
  | iPush bytes => exact .inr (.inr (.inl ⟨bytes, rfl⟩))
  | iFinish => exact .inr (.inr (.inr rfl))
  | _ => cases h

/-- What a host transaction decodes to is a command (R117). -/
theorem isCommand_of_decodeCommand {c : HostCommand} {i : Instr} (h : decodeCommand c = .ok i) :
    ∃ c', i.shape = .command c' := by
  have hif : ∀ j : Instr,
      (if c.operand = [] then .ok j else .error .malformedOperand : Except CommandError Instr) = .ok i → j = i := by
    intro j hj
    split at hj <;> cases hj
    rfl
  unfold decodeCommand at h
  split at h
  · exact hif _ h ▸ ⟨_, rfl⟩
  · cases h; exact ⟨_, rfl⟩
  · exact hif _ h ▸ ⟨_, rfl⟩
  · split at h <;> cases h
    exact ⟨_, rfl⟩
  · cases h; exact ⟨_, rfl⟩
  · exact hif _ h ▸ ⟨_, rfl⟩
  · cases h

namespace Machine

section
variable {s t : State}

/-- Every command keeps the invariant. -/
theorem State.Inv.exec_command (h : s.Inv) {i : Instr} {c : HostCommand} (hi : i.shape = .command c)
    (ht : exec i s = .next t) : t.Inv := by
  rcases command_cases hi with (rfl | ⟨bytes, rfl⟩ | rfl) | (⟨m, d, rfl⟩ | ⟨bytes, rfl⟩ | rfl)
  · exact h.execXReset ht
  · exact h.execXPush ht
  · exact h.execXFinish ht
  · exact h.execIReset ht
  · exact h.execIPush ht
  · exact h.execIFinish ht

/-- With no push running and a transaction that is no command a step is refused (R117). -/
theorem step_of_commandError {c : HostCommand} {rest : List HostCommand} {e : CommandError} (hsp : s.x.space? = none)
    (hh : s.host = c :: rest) (h : decodeCommand c = .error e) : step s = .refused (CommandError.refusal e) := by
  unfold step fetch fetchHost
  simp only [hsp, hh, h]

/-- An idle block stays as it is (R20). -/
theorem step_idle (hsp : s.x.space? = none) (hh : s.host = []) : step s = .next s := by
  rw [step, fetch_idle hsp hh]

/-- A step with no push running: a command of the host, or nothing (R20, R350). -/
theorem State.Inv.step_host (h : s.Inv) (hsp : s.x.space? = none) (ht : step s = .next t) : t.Inv := by
  cases hh : s.host with
  | nil =>
    rw [step_idle hsp hh] at ht
    cases ht
    exact h
  | cons c rest =>
    cases hc : decodeCommand c with
    | ok i =>
      obtain ⟨c', hi⟩ := isCommand_of_decodeCommand hc
      rw [step_of_command hsp hh hc] at ht
      exact (h.withHost rest).exec_command hi ht
    | error e =>
      rw [step_of_commandError hsp hh hc] at ht
      cases ht

end

/-- Settles O3: a step reads the stream of a running push or takes a command, and each change a rule makes to a unit keeps
that unit's invariant. -/
theorem stepKeepsInv : Obligations.StepKeepsInv := by
  intro s t h ht
  cases hsp : s.x.space? with
  | some sp => exact h.step_stream hsp ht
  | none => exact h.step_host hsp ht

/-- Settles O2: a unit right after reset has the invariant, live or not. -/
theorem resetInv : Obligations.ResetInv := by
  have hall : ∀ cfg : Config, cfg.legal = true → (State.resetWith cfg).Inv := fun cfg hcfg =>
    { cfg := hcfg, x := xInv_reset cfg.tables _, i := iInv_blank _, responses := fun r hr => nomatch hr }
  exact ⟨resetWith_standard ▸ hall _ standard_config_legal, resetWith_standard, hall⟩

/-- Settles O4, by the four ways a fetch goes. -/
theorem stepRunsDecoded : Obligations.StepRunsDecoded :=
  ⟨fun _ _ _ _ hsp h => step_of_instr hsp h, fun _ _ _ hsp h => step_of_needMoreInput hsp h,
    fun _ _ _ _ hsp hh h => step_of_command hsp hh h, fun _ hsp hh => step_idle hsp hh⟩

end Machine
end Sys2Proof
end

section
/-! SUPPORT. The two units share nothing but the parameters (10_state.md rule R21): what an instruction does to a block it
does to its unit with nothing around it. O54 and O55 follow. -/

namespace Sys2Proof.Machine

/-! ### A unit with nothing around it -/

/-- The EXPLODE unit of a block, and the parameters. -/
def State.onlyX (s : State) : State := { s with host := [], i := IUnit.blank, responses := [] }

/-- The IMPLODE unit of a block, and the parameters. -/
def State.onlyI (s : State) : State := { s with host := [], x := XUnit.reset s.cfg.tables, responses := [] }

/-- The block with the EXPLODE unit of `t`, after the answers `t` has given. -/
def State.takeX (s t : State) : State := { s with x := t.x, responses := s.responses ++ t.responses }

/-- The block with the IMPLODE unit of `t`, after the answers `t` has given. -/
def State.takeI (s t : State) : State := { s with i := t.i, responses := s.responses ++ t.responses }

/-- An operation of one unit does to a block what it does to that unit with nothing around it. -/
def ActsOn (only : State → State) (take : State → State → State) (run : State → Answer State) : Prop :=
  ∀ s, run s = andThen (run (only s)) fun t => .next (take s t)

abbrev ActsOnX (run : State → Answer State) : Prop := ActsOn State.onlyX State.takeX run

abbrev ActsOnI (run : State → Answer State) : Prop := ActsOn State.onlyI State.takeI run

/-- Two sequences that begin with the same operation. -/
theorem andThen_congr {α β γ : Type} (a : Answer α) {f : α → Answer β} {g : α → Answer γ}
    {k : γ → Answer β} (h : ∀ v, f v = andThen (g v) k) : andThen a f = andThen (andThen a g) k := by
  cases a with
  | next v => exact h v
  | fault _ => rfl
  | refused _ => rfl

/-- A RESET looks at the parameters first (U10). -/
theorem actsOn_withLegalTables {only : State → State} {take : State → State → State} {run : State → Answer State}
    (honly : ∀ s, (only s).cfg = s.cfg) (h : ActsOn only take run) :
    ActsOn only take fun s => withLegalTables s (run s) := by
  intro s
  unfold withLegalTables
  dsimp only
  rw [honly s]
  by_cases hk : s.cfg.tables.admitted = true
  · simp only [hk, if_true]
    exact h s
  · simp only [hk]
    rfl

/-! ### The operations of the EXPLODE unit -/

theorem next_takeX (s : State) (x : XUnit) :
    (.next { s with x := x } : Answer State) =
      andThen (.next { s.onlyX with x := x }) fun t => .next (s.takeX t) := by
  simp [State.takeX, State.onlyX]

theorem actsOnX_raiseX (code : ErrorCode) : ActsOnX (raiseX code) := fun _ => andThen_congr _ fun _ => rfl

theorem actsOnX_finishPush : ActsOnX finishPush := fun _ => andThen_congr _ fun _ => rfl

theorem actsOnX_executeToken (n : Nat) : ActsOnX (executeToken n) := by
  intro s
  have hx : s.onlyX.x = s.x := rfl
  unfold executeToken inDecoding
  rw [hx]
  by_cases hd : s.x.xstate = .decoding
  · rw [if_pos hd, if_pos hd]
    by_cases hend : n = endTokenNumber
    · rw [if_pos hend, if_pos hend]
      exact actsOnX_finishPush { s with x := s.x.complete }
    · rw [if_neg hend, if_neg hend]
      by_cases hlen : 0x100 ≤ n
      · rw [if_pos hlen, if_pos hlen]
        exact next_takeX s _
      · rw [if_neg hlen, if_neg hlen]
        exact next_takeX s _
  · rw [if_neg hd, if_neg hd]
    rfl

theorem actsOnX_executeDistance (p : Nat) (low : BitVec 6) : ActsOnX (executeDistance p low) := by
  intro s
  have hx : s.onlyX.x = s.x := rfl
  unfold executeDistance inDecoding
  rw [hx]
  by_cases hd : s.x.xstate = .decoding
  · rw [if_pos hd, if_pos hd]
    cases s.x.repeatLength with
    | none => rfl
    | some n =>
      dsimp only
      by_cases hlt : s.x.outBuf.size < trueDistance n s.x.dictBits p low.toNat
      · rw [if_pos hlt, if_pos hlt]
        exact actsOnX_raiseX _ s
      · rw [if_neg hlt, if_neg hlt]
        cases copiedBytes s.x.outBuf.contents n (trueDistance n s.x.dictBits p low.toNat) with
        | none => rfl
        | some bytes => exact next_takeX s _
  · rw [if_neg hd, if_neg hd]
    rfl

theorem actsOnX_parseHeader (m d seed : Byte) : ActsOnX (parseHeader m d seed) := by
  intro s
  have hx : s.onlyX.x = s.x := rfl
  unfold parseHeader
  rw [hx]
  by_cases ha : s.x.xstate = .awaitingHeader ∧ 4 ≤ s.x.inBuf.size
  · rw [if_pos ha, if_pos ha]
    cases CompressionMode.ofByte m with
    | none => exact actsOnX_raiseX _ s
    | some mode =>
      cases DictionarySize.ofByte d with
      | none => exact actsOnX_raiseX _ s
      | some dict => exact next_takeX s _
  · rw [if_neg ha, if_neg ha]
    rfl

theorem actsOnX_execXReset : ActsOnX execXReset := actsOn_withLegalTables (fun _ => rfl) fun _ => rfl

/-- A command of the EXPLODE unit that is refused before its first RESET and while a push runs (R49, R350). -/
theorem actsOnX_whenFree {run : State → Answer State} (h : ActsOnX run) :
    ActsOnX fun s => if s.x.live = false then .refused .neverReset
      else if s.x.space?.isSome then .refused .commandInProgress else run s := by
  intro s
  have hx : s.onlyX.x = s.x := rfl
  simp only [hx]
  by_cases hl : s.x.live = false
  · rw [if_pos hl, if_pos hl]
    rfl
  · rw [if_neg hl, if_neg hl]
    by_cases hs : s.x.space?.isSome = true
    · rw [if_pos hs, if_pos hs]
      rfl
    · rw [if_neg hs, if_neg hs]
      exact h s

theorem actsOnX_execXPush (bytes : List Byte) : ActsOnX (execXPush bytes) := by
  refine actsOnX_whenFree fun s => ?_
  have hx : s.onlyX.x = s.x := rfl
  simp only [hx]
  cases s.x.xstate with
  | awaitingHeader =>
    dsimp only
    by_cases hlt : (s.x.inBuf.append bytes).size < 4
    · rw [if_pos hlt, if_pos hlt]
      rfl
    · rw [if_neg hlt, if_neg hlt]
      exact next_takeX s _
  | suspended => exact next_takeX s _
  | _ => rfl

theorem actsOnX_execXFinish : ActsOnX execXFinish := by
  refine actsOnX_whenFree fun s => ?_
  have hx : s.onlyX.x = s.x := rfl
  simp only [hx]
  cases s.x.xstate with
  | awaitingHeader => exact actsOnX_raiseX _ s
  | suspended => exact actsOnX_raiseX _ s
  | complete => exact andThen_congr _ fun _ => rfl
  | _ => rfl

/-! ### The operations of the IMPLODE unit -/

theorem actsOnI_raiseI (code : ErrorCode) : ActsOnI (raiseI code) := fun _ => andThen_congr _ fun _ => rfl

theorem actsOnI_execIReset (m d : Byte) : ActsOnI (execIReset m d) := by
  refine actsOn_withLegalTables (fun _ => rfl) fun s => ?_
  cases CompressionMode.ofByte m with
  | none => exact actsOnI_raiseI _ { s with i := { IUnit.blank with live := true } }
  | some mode =>
    cases DictionarySize.ofByte d with
    | none => exact actsOnI_raiseI _ { s with i := { IUnit.blank with live := true } }
    | some dict => rfl

theorem actsOnI_execIPush (bytes : List Byte) : ActsOnI (execIPush bytes) := by
  intro s
  have hi : s.onlyI.i = s.i := rfl
  unfold execIPush
  simp only [hi]
  by_cases hl : s.i.live = false
  · rw [if_pos hl, if_pos hl]
    rfl
  · rw [if_neg hl, if_neg hl]
    cases s.i.istate with
    | accumulating => exact andThen_congr _ fun _ => andThen_congr _ fun _ => rfl
    | _ => rfl

theorem actsOnI_execIFinish : ActsOnI execIFinish := by
  intro s
  have hi : s.onlyI.i = s.i := rfl
  unfold execIFinish
  simp only [hi]
  by_cases hl : s.i.live = false
  · rw [if_pos hl, if_pos hl]
    rfl
  · rw [if_neg hl, if_neg hl]
    cases s.i.istate with
    | accumulating => exact andThen_congr _ fun _ => andThen_congr _ fun _ => andThen_congr _ fun _ => rfl
    | _ => rfl

/-! ### Every instruction -/

/-- The instruction acts on the unit it is for (R21). -/
def ActsOnItsUnit (i : Instr) : Prop :=
  (forImplode i = false → ActsOnX (exec i)) ∧ (forImplode i = true → ActsOnI (exec i))

theorem acts_of_explode {i : Instr} (hf : forImplode i = false) {run : State → Answer State}
    (hrun : ∀ s, exec i s = run s) (h : ActsOnX run) : ActsOnItsUnit i :=
  ⟨fun _ => (funext hrun : exec i = run) ▸ h, fun ht => absurd (hf.symm.trans ht) (by decide)⟩

theorem acts_of_implode {i : Instr} (hf : forImplode i = true) (h : ActsOnI (exec i)) : ActsOnItsUnit i :=
  ⟨fun ht => absurd (hf.symm.trans ht) (by decide), fun _ => h⟩

/-- Bit 2 of a command's word names the unit (R117). -/
theorem forImplode_command {i : Instr} {c : HostCommand} {unit : Bool} (hs : i.shape = .command c)
    (hw : c.word.getLsbD 2 = unit) : forImplode i = unit := by
  rw [forImplode, hs]
  exact hw

/-- What is no command is the EXPLODE unit's (R20). -/
theorem forImplode_eq_false {i : Instr} (hs : ∀ c, i.shape ≠ .command c) : forImplode i = false := by
  unfold forImplode
  split
  · exact absurd ‹_› (hs _)
  · rfl

theorem acts_command {i : Instr} {c : HostCommand} (hs : i.shape = .command c) : ActsOnItsUnit i := by
  rcases command_cases hs with (rfl | ⟨bytes, rfl⟩ | rfl) | (⟨m, d, rfl⟩ | ⟨bytes, rfl⟩ | rfl)
  · exact acts_of_explode rfl (fun _ => rfl) actsOnX_execXReset
  · exact acts_of_explode (forImplode_command (c := ⟨1, bytes⟩) rfl (by dsimp only; decide)) (fun _ => rfl)
      (actsOnX_execXPush bytes)
  · exact acts_of_explode rfl (fun _ => rfl) actsOnX_execXFinish
  · exact acts_of_implode (forImplode_command (c := ⟨4, [m, d]⟩) rfl (by dsimp only; decide)) (actsOnI_execIReset m d)
  · exact acts_of_implode (forImplode_command (c := ⟨5, bytes⟩) rfl (by dsimp only; decide)) (actsOnI_execIPush bytes)
  · exact acts_of_implode rfl actsOnI_execIFinish

/-- Every instruction acts on the unit it is for. -/
theorem acts_on_its_unit (i : Instr) : ActsOnItsUnit i := by
  cases hs : i.shape with
  | command c => exact acts_command hs
  | header m d seed =>
    exact acts_of_explode (forImplode_eq_false (by simp [hs])) (fun s => by rw [exec_eq_execShape, execShape, hs])
      (actsOnX_parseHeader m d seed)
  | literalBinary b =>
    exact acts_of_explode (forImplode_eq_false (by simp [hs])) (exec_literal (.inl hs)) (actsOnX_executeToken _)
  | literalAscii b =>
    exact acts_of_explode (forImplode_eq_false (by simp [hs])) (exec_literal (.inr hs)) (actsOnX_executeToken _)
  | length c e =>
    exact acts_of_explode (forImplode_eq_false (by simp [hs])) (exec_length hs) fun s => actsOnX_executeToken _ s
  | endOfStream =>
    exact acts_of_explode (forImplode_eq_false (by simp [hs])) (fun s => by rw [exec_eq_execShape, execShape, hs])
      (actsOnX_executeToken _)
  | distance p low =>
    exact acts_of_explode (forImplode_eq_false (by simp [hs])) (exec_distance hs) (actsOnX_executeDistance p low)

/-- What a block is after an operation of one unit. -/
theorem ActsOn.exists_take {only : State → State} {take : State → State → State} {run : State → Answer State}
    (h : ActsOn only take run) {s t : State} (ht : run s = .next t) : ∃ u, t = take s u := by
  rw [h s] at ht
  obtain ⟨u, -, he⟩ := andThen_eq_next.1 ht
  exact ⟨u, (Host.Outcome.next.inj he).symm⟩

/-- Settles O54: an instruction changes its unit alone, and its answers come after those there were. -/
theorem unitFrame : Obligations.UnitFrame := by
  intro i s t ht
  cases hi : forImplode i with
  | false =>
    obtain ⟨u, rfl⟩ := ((acts_on_its_unit i).1 hi).exists_take ht
    exact ⟨rfl, rfl, List.prefix_append .., fun _ => rfl, fun h => nomatch h⟩
  | true =>
    obtain ⟨u, rfl⟩ := ((acts_on_its_unit i).2 hi).exists_take ht
    exact ⟨rfl, rfl, List.prefix_append .., fun h => (nomatch h), fun _ => rfl⟩

/-- Settles O55: with another unit beside it, the unit with nothing around it is the same. -/
theorem unitsIndependent : Obligations.UnitsIndependent := by
  refine fun i s x u => ⟨fun hi => ?_, fun hi => ?_⟩
  · have h := (acts_on_its_unit i).1 hi
    rw [h s, h { s with i := u }, show ({ s with i := u } : State).onlyX = s.onlyX from rfl]
    cases exec i s.onlyX <;> rfl
  · have h := (acts_on_its_unit i).2 hi
    rw [h s, h { s with x := x }, show ({ s with x := x } : State).onlyI = s.onlyI from rfl]
    cases exec i s.onlyI <;> rfl

end Sys2Proof.Machine
end

section
/-! SUPPORT. O15: the dense tables answer the code their index begins with. -/

namespace Sys2Proof

theorem mem_zip_getD {widths codes : List Nat} {a : Nat × Nat} (h : a ∈ widths.zip codes) :
    ∃ c < codes.length, a = (widths.getD c 0, codes.getD c 0) := by
  obtain ⟨c, hc, rfl⟩ := List.getElem_of_mem h
  have hlen := List.length_zip ▸ hc
  refine ⟨c, by omega, ?_⟩
  rw [List.getElem_zip, List.getD_eq_getElem _ _ (by omega), List.getD_eq_getElem _ _ (by omega)]

/-- Some code of either family begins every 8 bits, where no slot is unwritten (R163). -/
theorem complete_begins {k : CodeTables} (hk : k.legal = true) (h : k.complete = true) {x : Nat} (hx : x < 256) :
    (∃ c < 16, x % 2 ^ k.lenBits.getD c 0 = k.lenCode.getD c 0) ∧
      ∃ p < 64, x % 2 ^ k.distBits.getD p 0 = k.distCode.getD p 0 := by
  obtain ⟨-, hlen, -, -, -, hdist, -⟩ := legal_sized hk
  have hall := List.all_eq_true.1 h x (List.mem_range.2 hx)
  simp only [Bool.and_eq_true, List.any_eq_true, beq_iff_eq] at hall
  obtain ⟨⟨a, ha, hxa⟩, b, hb, hxb⟩ := hall
  obtain ⟨c, hc, rfl⟩ := mem_zip_getD ha
  obtain ⟨p, hp, rfl⟩ := mem_zip_getD hb
  exact ⟨⟨c, hlen ▸ hc, hxa⟩, p, hdist ▸ hp, hxb⟩

/-- Settles O15: no two codes of a legal family collide, so a slot is written by one code at most. -/
theorem denseTables : Obligations.DenseTables := by
  refine ⟨fun k hk => ⟨fun x c hc => ?_, fun x p hp => ?_, fun hcomplete x => ⟨fun c hc => ?_, fun p hp => ?_⟩⟩,
    standard_legal, standard_complete⟩
  · obtain ⟨d, -, hd, hu⟩ := lengthCodesOf_lookup hk x.isLt
    rw [hd, hu c c.isLt hc]
  · obtain ⟨q, -, hq, hu⟩ := distPosCodesOf_lookup hk x.isLt
    rw [hq, hu p p.isLt hp]
  · obtain ⟨d, -, hd, hu⟩ := lengthCodesOf_lookup hk x.isLt
    obtain ⟨⟨e, he, hxe⟩, -⟩ := complete_begins hk hcomplete x.isLt
    rw [Option.some.inj (hc.symm.trans hd), ← hu e he hxe]
    exact hxe
  · obtain ⟨q, -, hq, hu⟩ := distPosCodesOf_lookup hk x.isLt
    obtain ⟨-, e, he, hxe⟩ := complete_begins hk hcomplete x.isLt
    rw [Option.some.inj (hp.symm.trans hq), ← hu e he hxe]
    exact hxe

end Sys2Proof
end

section
/-! SUPPORT. O11: what `peek` reads. -/

namespace Sys2Proof.Machine

/-- Settles O11: the bytes that wait lie above the register's lowest 8 bits, so those are the next stream bits. -/
theorem peek : Obligations.Peek := fun r _ hn => BitReader.peek_eq r hn

end Sys2Proof.Machine
end

section
/-! SUPPORT. The decoder and the encodings of token parts (30_encoding.md rules R105 to R109): O6 and O7. -/

namespace Sys2Proof

/-- Settles O6: any bits begin with one well-formed token part, and that is the one the decoder reads. -/
theorem decodeEncode : Obligations.DecodeEncode := by
  intro k t sp i r hk hsp ht hi hr hbits havail
  obtain ⟨r', hd, hreads⟩ := decode_encode hk hsp ht hi hr hbits havail
  refine ⟨r', hd, fun hne => ?_⟩
  have h := hreads hne
  exact ⟨h.wf, h.bits, Nat.eq_sub_of_add_eq h.avail⟩

/-! ### What any bits begin with -/

/-- The low bits of a number are its lowest field and the one above it. -/
theorem mod_eq_two_fields (x m n : Nat) : x % 2 ^ (m + n) = x % 2 ^ m + (x / 2 ^ m % 2 ^ n) <<< m := by
  rw [Nat.pow_add, Nat.mod_mul, Nat.shiftLeft_eq, Nat.mul_comm (2 ^ m)]

/-- With no slot of the dense tables unwritten, any bits begin with some length code and with some position code (R163). -/
theorem begins_with_codes {k : CodeTables} (hk : k.legal = true) (hc : k.complete = true) (x : Nat) :
    (∃ c < 16, x % 2 ^ k.lenBits.getD c 0 = k.lenCode.getD c 0) ∧
      ∃ p < 64, x % 2 ^ k.distBits.getD p 0 = k.distCode.getD p 0 := by
  obtain ⟨⟨c, hc16, hxc⟩, p, hp64, hxp⟩ := complete_begins hk hc (x := x % 2 ^ 8) (Nat.mod_lt _ (by decide))
  have hlen := legal_lenBits hk hc16
  have hdist := legal_distBits hk hp64
  rw [Nat.mod_mod_of_dvd _ (Nat.pow_dvd_pow 2 (by omega))] at hxc hxp
  exact ⟨⟨c, hc16, hxc⟩, p, hp64, hxp⟩

/-- The bits `x` begin with the encoding of `i`, which the space has a pattern for. -/
def BeginsWith (k : CodeTables) (sp : Space) (x : Nat) (i : Instr) : Prop :=
  wellFormed k sp i = true ∧ x % 2 ^ (encode k sp i).width = (encode k sp i).bits

section
variable {k : CodeTables}

/-- Bits with the flag 1 begin with a length part or END (R107, R109). -/
theorem begins_length (hk : k.legal = true) (hcomplete : k.complete = true) (mode : CompressionMode) {x : Nat}
    (hflag : x % 2 = 1) : ∃ i, BeginsWith k (.token mode) x i := by
  obtain ⟨⟨c, hc, hcode⟩, -⟩ := begins_with_codes hk hcomplete (x / 2)
  have he : x / 2 / 2 ^ k.lenBits.getD c 0 % 2 ^ k.exLenBits.getD c 0 < 2 ^ k.exLenBits.getD c 0 :=
    Nat.mod_lt _ (Nat.two_pow_pos _)
  obtain ⟨he8, h0⟩ := exLenBits_pow_le hk hc he
  refine ⟨_, wellFormed_lengthInstr hk mode hc he, ?_⟩
  rw [encode_lengthInstr k _ hc he8 h0, lengthCode, mod_eq_two_fields, mod_eq_two_fields x 1, Nat.pow_one, hflag, hcode,
    Nat.div_div_eq_div_mul, ← Nat.pow_succ', Nat.succ_eq_one_add]

/-- Bits with the flag 0 begin with a Binary literal in Binary mode (R105). -/
theorem begins_litB {x : Nat} (hflag : x % 2 = 0) : ∃ i, BeginsWith k (.token .binary) x i := by
  refine ⟨.litB (BitVec.ofNat 8 (x / 2)), rfl, ?_⟩
  rw [encode_litB, show 9 = 1 + 8 from rfl, mod_eq_two_fields, Nat.pow_one, hflag, Nat.zero_add, BitVec.toNat_ofNat]

/-- Bits with the flag 0 begin with an Ascii literal in Ascii mode (R106, R170). -/
theorem begins_asciiLiteral (hk : k.legal = true) {x : Nat} (hflag : x % 2 = 0) :
    ∃ i, BeginsWith k (.token .ascii) x i := by
  obtain ⟨b, -, -, -, hcode⟩ := walk_spec hk (x / 2)
  refine ⟨asciiLiteral b, wellFormed_asciiLiteral k b, ?_⟩
  rw [encode_asciiLiteral, mod_eq_two_fields, Nat.pow_one, hflag, Nat.zero_add, hcode]

/-- After a length part, any bits begin with a distance part (R108). -/
theorem begins_distance (hk : k.legal = true) (hcomplete : k.complete = true) (n : Nat) (d : DictionarySize) (x : Nat) :
    ∃ i, BeginsWith k (.distance n d d.distMask) x i := by
  obtain ⟨-, p, hp, hcode⟩ := begins_with_codes hk hcomplete x
  have hlow : x / 2 ^ k.distBits.getD p 0 % 2 ^ lowWidth n d < 2 ^ lowWidth n d := Nat.mod_lt _ (Nat.two_pow_pos _)
  have h6 := Nat.pow_le_pow_right (n := 2) (by decide) (lowWidth_le n d).2
  refine ⟨_, wellFormed_distancePart k n d hp hlow, ?_⟩
  rw [encode_distancePart k n d _ hp, mod_eq_two_fields, hcode, BitVec.toNat_ofNat,
    Nat.mod_eq_of_lt (Nat.lt_of_lt_of_le hlow h6)]

/-- Any bits begin with a well-formed token part, where no slot of the dense tables is unwritten (R163). -/
theorem exists_beginsWith {sp : Space} (hk : k.legal = true) (hcomplete : k.complete = true) (hsp : sp.inStream = true)
    (x : Nat) : ∃ i, BeginsWith k sp x i := by
  cases sp with
  | host => cases hsp
  | header => cases hsp
  | distance n d mask =>
    simp only [Space.inStream, Bool.and_eq_true, beq_iff_eq] at hsp
    obtain ⟨-, rfl⟩ := hsp
    exact begins_distance hk hcomplete n d x
  | token mode =>
    rcases Nat.mod_two_eq_zero_or_one x with hflag | hflag
    · cases mode with
      | binary => exact begins_litB hflag
      | ascii => exact begins_asciiLiteral hk hflag
    · exact begins_length hk hcomplete mode hflag

end

/-- What the decoder reads is the one instruction that the bits can begin with, and its bits are there (R193). -/
theorem decode_eq_instr {k : CodeTables} {t : DecodeTables} {sp : Space} {r r' : BitReader} {i : Instr} (hk : k.legal = true)
    (hsp : sp.inStream = true) (ht : t.ready k sp = true) (hr : r.wf = true) (h : decode k t sp r = .instr i r') :
    wellFormed k sp i = true ∧ (encode k sp i).width + i.slack ≤ r.avail ∧ ∀ j, BeginsWith k sp r.bits j → j = i := by
  obtain ⟨j, hj, ⟨hread, hstarved⟩, hu⟩ := decode_yields hk hsp ht hr
  rcases Nat.lt_or_ge r.avail ((encode k sp j).width + j.slack) with hlt | hge
  · obtain ⟨q, hq⟩ := hstarved hlt
    cases h.symm.trans hq
  · obtain ⟨s, hs, -⟩ := hread hge
    cases h.symm.trans hs
    exact ⟨hj, hge, fun j' hj' => hu j' hj'.1 hj'.2⟩

/-- Settles O7: the bits at the cursor begin with some well-formed token part, and what the decoder reads is that one. -/
theorem decodeSound : Obligations.DecodeSound := by
  intro k t sp i r r' hk hcomplete hsp ht hr h
  obtain ⟨hi, havail, hunique⟩ := decode_eq_instr hk hsp ht hr h
  obtain ⟨j, hj⟩ := exists_beginsWith hk hcomplete hsp r.bits
  obtain rfl := hunique j hj
  exact ⟨hi, hj.2, havail⟩

end Sys2Proof
end

section
/-! SUPPORT. The words the host and the header are written in (30_encoding.md rules R101 and R117): O5 and O12. -/

namespace Sys2Proof

/-- Settles O5: the decoder evaluated on each word, with the default tables as they are written out. -/
theorem decodeWords : Obligations.DecodeWords :=
  ⟨by decide, by decide, by decide, by decide, by decide, by decide, by decide⟩

/-- A command without operand is refused with one (R117). -/
theorem noOperand_eq_ok {operand : List Byte} {i j : Instr}
    (h : (if operand = [] then .ok j else .error .malformedOperand : Except CommandError Instr) = .ok i) :
    operand = [] ∧ j = i := by
  split at h
  · exact ⟨‹_›, Except.ok.inj h⟩
  · cases h

/-- What a host transaction decodes to is the command that has its word and its operand (R117). -/
theorem shape_of_decodeCommand {c : HostCommand} {i : Instr} (h : decodeCommand c = .ok i) : i.shape = .command c := by
  obtain ⟨word, operand⟩ := c
  have hword : ∀ {n : Nat} {j : Instr}, word.toNat = n → j.shape = .command ⟨BitVec.ofNat 3 n, operand⟩ →
      j.shape = .command ⟨word, operand⟩ := fun hn hj => by
    rw [hj, ← hn, BitVec.ofNat_toNat, BitVec.setWidth_eq]
  unfold decodeCommand at h
  split at h <;> rename_i hn
  · obtain ⟨rfl, rfl⟩ := noOperand_eq_ok h
    exact hword hn rfl
  · cases h
    exact hword hn rfl
  · obtain ⟨rfl, rfl⟩ := noOperand_eq_ok h
    exact hword hn rfl
  · split at h
    · cases h
      rename_i hoperand
      cases hoperand
      exact hword hn rfl
    · cases h
  · cases h
    exact hword hn rfl
  · obtain ⟨rfl, rfl⟩ := noOperand_eq_ok h
    exact hword hn rfl
  · cases h

/-- A command's word and operand decode to it (R117). -/
theorem decodeCommand_of_shape {c : HostCommand} {i : Instr} (h : i.shape = .command c) : decodeCommand c = .ok i := by
  rcases command_cases h with (rfl | ⟨bytes, rfl⟩ | rfl) | (⟨m, d, rfl⟩ | ⟨bytes, rfl⟩ | rfl) <;> cases h <;> rfl

/-- The header is read where 4 bytes are buffered, and nothing is consumed (R101, R204). -/
theorem decodeHeader_eq_instr {r r' : BitReader} {i : Instr} :
    decodeHeader r = .instr i r' ↔
      r' = r ∧ ∃ m d seed next rest, r.input = m :: d :: seed :: next :: rest ∧ i = .header m d seed := by
  unfold decodeHeader
  constructor
  · intro h
    split at h
    · rename_i m d seed next rest hinput
      cases h
      exact ⟨rfl, m, d, seed, next, rest, hinput, rfl⟩
    · cases h
  · rintro ⟨rfl, m, d, seed, next, rest, hinput, rfl⟩
    rw [hinput]

/-- Settles O12: the decoders of a host transaction and of the header, inverted. -/
theorem commandAndHeaderWords : Obligations.CommandAndHeaderWords :=
  ⟨fun _ _ => ⟨shape_of_decodeCommand, decodeCommand_of_shape⟩, fun _ _ _ _ _ => decodeHeader_eq_instr⟩

end Sys2Proof
end

section
/-! SUPPORT. What the header and each token part leave (43_explode_engine.md rules R205 to R212): O23 and O25 to O28. -/

namespace Sys2Proof.Machine

/-! ### The header -/

theorem compressionMode_ofByte_toByte (mode : CompressionMode) : CompressionMode.ofByte mode.toByte = some mode := by
  cases mode <;> rfl

theorem dictionarySize_ofByte_toByte (dict : DictionarySize) : DictionarySize.ofByte dict.toByte = some dict := by
  cases dict <;> rfl

/-- Settles O23: a legal header passes both checks of R310. -/
theorem headerResult : Obligations.HeaderResult := by
  intro s mode dict seed hstate hsize hin
  have hparse : exec (.header mode.toByte dict.toByte seed) s = .next _ :=
    parseHeader_eq_next.2 ⟨⟨hstate, hsize⟩, .inr ⟨mode, compressionMode_ofByte_toByte mode,
      .inr ⟨dict, dictionarySize_ofByte_toByte dict, rfl⟩⟩⟩
  refine ⟨_, _, hparse, contents_dropStart hin 3, dropStart_heap .., dropStart_saved .., fun hm => ?_, fun hm => ?_⟩
  · rw [if_neg (by rw [hm]; decide)]
  · rw [if_pos hm, DecodeTables.withAscii, asciiTablesOf_eq]

/-! ### What an append leaves -/

/-- An append grows its buffer (R142). -/
theorem append_grew {b : Buffer} (hb : b.wf = true) (s : List Byte) : b.Grew s (b.append s) := by
  obtain ⟨-, -, hheap, -⟩ := (buffer_wf_iff b).1 hb
  rcases append_cases b s with ⟨hfit, he⟩ | ⟨hfull, he⟩
  · refine ⟨contents_append hb s, append_saved b s, fun _ => ?_, fun h => absurd h (by omega)⟩
    rw [he]
    exact ⟨rfl, rfl, rfl, fun a ha => read_write_outside hheap ha⟩
  · refine ⟨contents_append hb s, append_saved b s, fun h => absurd h (by omega), fun _ => ?_⟩
    rw [he]
    exact ⟨rfl, rfl, rfl⟩

/-! ### Literals, lengths and END -/

/-- Settles O25: a literal's token number is its byte. -/
theorem literalResult : Obligations.LiteralResult := by
  intro i b s hshape hstate hout
  refine ⟨_, ?_, append_grew hout [b]⟩
  rw [exec_literal hshape]
  refine executeToken_eq_next.2 ⟨hstate, .inr (.inr ⟨b.isLt, ?_⟩)⟩
  rw [BitVec.ofNat_toNat, BitVec.setWidth_eq]

/-- The operands of a length part: one of 16 codes and at most 8 extra bits (R107). -/
theorem length_operands {i : Instr} {c e : Nat} (h : i.shape = .length c e) : c < 16 ∧ e < 2 ^ 8 := by
  have hc : c < 16 := by
    have hb := shape_bounded i
    rw [h] at hb
    exact of_decide_eq_true hb
  have hi : lengthPart c e = i := by rw [← instr_shape i, h]; rfl
  refine ⟨hc, ?_⟩
  rcases Nat.eq_zero_or_pos c with rfl | hpos
  · cases hi
    cases h
    decide
  · have hmod : lengthPart c (e % 2 ^ 8) = lengthPart c e := lengthPart_toNat c (BitVec.ofNat 8 e)
    have hlt : e % 2 ^ 8 < 2 ^ 8 := Nat.mod_lt _ (by decide)
    have hshape := shape_lengthPart hc hlt fun h0 => absurd h0 (Nat.ne_of_gt hpos)
    rw [hmod, hi, h] at hshape
    injection hshape with _ he
    rwa [he]

/-- Only END and the pattern of `LEN.15` with 0xFF have END's token number (R109, R119 items 4 and 5). -/
theorem lengthToken_ne_end {k : CodeTables} (hk : k.legal = true) {c e : Nat} (hc : c < 16) (he : e < 2 ^ 8)
    (hne : ¬(c = 15 ∧ e = 0xFF)) : lengthToken k c e ≠ endTokenNumber := by
  have hbase := legal_lenBase_add_le hk c (15 - c) (by omega)
  rw [show c + (15 - c) = 15 by omega, (legal_ends hk).2.1] at hbase
  unfold lengthToken
  intro h
  have : k.lenBase.getD c 0 + e + 0x100 = 0x305 := h
  omega

/-- Settles O26: a length part is executed as its token, which is none of the literals' and not END's. -/
theorem lengthResult : Obligations.LengthResult := by
  intro i c e s hshape hne hk hstate
  obtain ⟨hc, he⟩ := length_operands hshape
  rw [exec_length hshape]
  exact executeToken_eq_next.2 ⟨hstate, .inr (.inl ⟨lengthToken_ne_end hk hc he hne, Nat.le_add_left .., rfl⟩)⟩

/-- A drain hands out the first bytes of the contents, as many as R283 and R284 say, and keeps the capacity. -/
theorem drain_releases (block : Nat) {b : Buffer} (hb : b.wf = true) :
    ∃ b', drain block b = .next (b', b.contents.take (drainCount block b.size)) ∧
      b'.contents = b.contents.drop (drainCount block b.size) ∧ b'.capacity = b.capacity := by
  rcases Nat.lt_or_ge block b.size with h | h
  · have hle := drainCount_le block b.size
    obtain ⟨b', hflush, hcontents, -, hcap, -⟩ := flushStart_eq hb hle
    exact ⟨b', drain_eq_next.2 (.inr ⟨h, readBytes_zero hb hle, hflush⟩), hcontents, hcap⟩
  · rw [drainCount, if_neg (Nat.not_lt.2 h)]
    exact ⟨b, drain_eq_next.2 (.inl ⟨h, rfl, rfl⟩), rfl, rfl⟩

/-- END, and `LEN.15` with 0xFF, are executed as END's token (R109, R186). -/
theorem exec_end {i : Instr} {s : State} (h : i = .endToken ∨ (i = .len15 0xFF ∧ s.cfg.tables.legal = true)) :
    exec i s = executeToken endTokenNumber s := by
  rcases h with rfl | ⟨rfl, hk⟩
  · rfl
  · rw [exec_length (c := 15) (e := 0xFF) rfl, lengthToken, (legal_ends hk).2.1]

/-- Settles O27: END's token completes the unit, and the push ends with the drain. -/
theorem endResult : Obligations.EndResult := by
  intro i s hi hstate hout
  obtain ⟨b, hdrain, hcontents, hcap⟩ := drain_releases s.cfg.blockX hout
  refine ⟨b, ?_, hcontents, hcap⟩
  rw [exec_end hi]
  exact executeToken_eq_next.2 ⟨hstate, .inl ⟨rfl, finishPush_eq_next.2 ⟨b, _, hdrain, rfl⟩⟩⟩

/-! ### The copy -/

/-- Settles O28: the loop of R211 appends the bytes in closed form, since the history reaches the distance. -/
theorem distanceResult : Obligations.DistanceResult := by
  intro i p low s n hshape hstate hlength hout d hd hle
  have hcopied : copiedBytes s.x.outBuf.contents n d = some (copied s.x.outBuf.contents n d) :=
    copiedBytes_eq (by omega) (by rwa [length_contents hout]) n
  have htrue : trueDistance n s.x.dictBits p low.toNat = d := hd.symm
  refine ⟨_, ?_, append_grew hout (copied s.x.outBuf.contents n d)⟩
  rw [exec_distance hshape]
  refine executeDistance_eq_next.2 ⟨hstate, n, hlength, .inr ?_⟩
  rw [htrue]
  exact ⟨hle, _, hcopied, rfl⟩

end Sys2Proof.Machine
end

section
/-! SUPPORT. What the compressor emits for a match (44_implode_match.md rule R239, 45_implode_emit.md rules R255 and R257): O44 and
O45. -/

namespace Sys2Proof.Machine

/-- What is not flushable (R239). -/
theorem flushable_iff (size d : Nat) : flushable size d = true ↔ ¬(size = 0 ∨ (size = 2 ∧ 0x100 ≤ d)) := by
  simp only [flushable, Bool.not_eq_true', Bool.or_eq_false_iff, Bool.and_eq_false_iff, beq_eq_false_iff_ne,
    decide_eq_false_iff_not]
  omega

/-- Settles O45: a flushable match of two bytes has a stored distance of 8 bits, so a position code of 6. -/
theorem flushability : Obligations.Flushability := by
  refine fun size d => ⟨flushable_iff size d, fun h => ?_⟩
  have hd := (flushable_iff 2 d).1 h
  omega

/-- The length part of a match is well formed (R107, R109). -/
theorem wellFormed_lengthOf {k : CodeTables} (hk : k.legal = true) (mode : CompressionMode) {size : Nat} (h2 : 2 ≤ size)
    (hs : size ≤ 0x204) : wellFormed k (.token mode)
      (lengthPart (lengthCodeOf k size) (size - 2 - k.lenBase.getD (lengthCodeOf k size) 0)) = true := by
  obtain ⟨hc, -, he⟩ := lengthCodeOf_spec hk h2 hs
  have h := wellFormed_lengthInstr hk mode hc he
  rwa [lengthInstr, if_neg (lengthCodeOf_ne_end hk h2 hs)] at h

/-- Settles O44: the bits of a match are those of its length part and then those of its distance part. -/
theorem IUnit.emitMatch : Obligations.EmitMatch := by
  intro k i size d hk hi hf h2 hs hd
  obtain ⟨j, hj, hw⟩ := emitMatch_writes hk hi h2 hs hf hd
  obtain ⟨hc, hle, he⟩ := lengthCodeOf_spec hk h2 hs
  refine ⟨_, lengthCodeOf k size, size - 2 - k.lenBase.getD (lengthCodeOf k size) 0, hj, hc, he, by omega,
    wellFormed_lengthOf hk i.mode h2 hs, ?_⟩
  refine ⟨congrArg (fun u : IUnit => { u with cursor := i.cursor + size }) hw.eq, ?_, ?_⟩ <;> rw [hi.geometry.1]
  · exact hw.position.trans (Nat.add_assoc ..).symm
  · exact hw.bits

end Sys2Proof.Machine
end

section
/-! SUPPORT. The Growable Byte Buffer, operation by operation (40_buffer_ops.md rules R142 to R156): O17 to O21. -/

namespace Sys2Proof.Machine

/-- Settles O17: what both ways of an append leave is `append_grew`. -/
theorem bufferAppend : Obligations.BufferAppend :=
  fun _ s hb => append_grew hb s

/-! ### Hard deletes -/

/-- A hard delete sees its operand only through the clamp (R146, R147). -/
theorem flush_congr {b : Buffer} {n m : Int} (h : b.flushCount n = b.flushCount m) :
    b.flushStart n = b.flushStart m ∧ b.flushEnd n = b.flushEnd m := by
  simp only [Buffer.flushStart, Buffer.flushEnd, h, and_self]

/-- A `flushStart` writes below the new `end` only (R146). -/
theorem flushStart_read_of_stop_le {b b' : Buffer} (hb : b.wf = true) {n : Int} (h : b.flushStart n = .next b') {a : Nat}
    (ha : b'.stop ≤ a) : b'.heap.read a = b.heap.read a := by
  obtain ⟨-, -, hheap, -, hlen⟩ := (buffer_wf_iff b).1 hb
  simp only [Buffer.flushStart] at h
  split at h
  · cases h
    rfl
  · split at h
    · cases h
    · cases h
      refine read_write_outside hheap (.inr ?_)
      rw [List.length_drop, hlen, Nat.zero_add]
      exact ha

/-- Settles O18: a hard delete acts as one of the clamped operand, for which `flushStart_eq` and `flushEnd_eq` say what it
leaves when the contents reach that far, and `flush_refused` that it is refused when they do not. -/
theorem bufferHardDeletes : Obligations.BufferHardDeletes := by
  intro b n k hb hk
  have hcount : b.flushCount n = k := by
    rw [Buffer.flushCount, ← hk, Int.toNat_natCast]
  have hflush (hle : k ≤ b.size) : b.flushStart n = b.flushStart k ∧ b.flushEnd n = b.flushEnd k :=
    flush_congr (hcount.trans (flushCount_of_le hb hle).symm)
  refine ⟨?zero, ?within, fun hlt => flush_refused (hcount.symm ▸ hlt)⟩
  case zero =>
    rintro rfl
    obtain ⟨hs, he⟩ := hflush (Nat.zero_le _)
    obtain ⟨b', hstart, -, -, -, -, hsame, -⟩ := flushStart_eq hb (Nat.zero_le b.size)
    obtain ⟨b'', hend, hstop, -⟩ := flushEnd_eq hb (Nat.zero_le b.size)
    exact ⟨by rw [hs, hstart, hsame rfl], by rw [he, hend, hstop, Nat.sub_zero]⟩
  case within =>
    intro hpos hle
    obtain ⟨hs, he⟩ := hflush hle
    rw [hs, he]
    obtain ⟨b', hstart, hcontents, -, hcap, hsaved, -, hcursors⟩ := flushStart_eq hb hle
    obtain ⟨hfront, hstop⟩ := hcursors hpos
    obtain ⟨b'', hend, heq, htake, -⟩ := flushEnd_eq hb hle
    exact ⟨⟨b', hstart, hfront, hstop, hcap, hsaved, hcontents, fun _ => flushStart_read_of_stop_le hb hstart⟩,
      b'', hend, heq, htake⟩

/-! ### Soft deletes -/

@[simp] theorem dropEnd_zero (b : Buffer) : b.dropEnd 0 = b := rfl

theorem dropStart_of_lt {b : Buffer} {n : Nat} (h : b.start + n < b.stop) :
    b.dropStart n = { b with start := b.start + n } := by
  unfold Buffer.dropStart
  split
  · subst n
    rfl
  · rw [if_neg (by omega)]

theorem dropStart_of_le {b : Buffer} {n : Nat} (hn : 0 < n) (h : b.stop ≤ b.start + n) : b.dropStart n = b.clear := by
  rw [Buffer.dropStart, if_neg (by omega), if_pos h]

theorem dropEnd_of_lt {b : Buffer} {n : Nat} (h : b.start < b.stop - n) :
    b.dropEnd n = { b with stop := b.stop - n } := by
  unfold Buffer.dropEnd
  split
  · subst n
    rfl
  · rw [if_neg (by omega)]

theorem dropEnd_of_le {b : Buffer} {n : Nat} (hn : 0 < n) (h : b.stop - n ≤ b.start) : b.dropEnd n = b.clear := by
  rw [Buffer.dropEnd, if_neg (by omega), if_pos h]

theorem restoreIndices_of_dropEnd (b : Buffer) (n : Nat) : (b.dropEnd n).restoreIndices = b.restoreIndices := by
  unfold Buffer.dropEnd
  split
  · rfl
  · split <;> rfl

/-- A restore does not see any soft deletes before it (R152). -/
theorem restoreIndices_of_drops {drops : List (Buffer → Buffer)}
    (h : ∀ f ∈ drops, ∃ m, f = (fun c => c.dropStart m) ∨ f = (fun c => c.dropEnd m)) (b : Buffer) :
    (drops.foldl (fun c f => f c) b).restoreIndices = b.restoreIndices := by
  induction drops generalizing b with
  | nil => rfl
  | cons f drops ih =>
    obtain ⟨hf, hdrops⟩ := List.forall_mem_cons.1 h
    have hstep : (f b).restoreIndices = b.restoreIndices := by
      obtain ⟨m, rfl | rfl⟩ := hf
      · exact restoreIndices_of_dropStart b m
      · exact restoreIndices_of_dropEnd b m
    exact (ih hdrops (f b)).trans hstep

/-- Settles O19: the cursors by the cases of each drop; the restore does not see the drops. -/
theorem bufferSoftDeletes : Obligations.BufferSoftDeletes := by
  intro b n hb
  refine ⟨⟨dropStart_zero b, fun _ => dropStart_of_lt, dropStart_of_le, contents_dropStart hb n⟩,
    ⟨dropEnd_zero b, fun _ => dropEnd_of_lt, dropEnd_of_le, contents_dropEnd hb n⟩, fun drops hdrops => ?_, fun hnone => ?_⟩
  · exact ⟨b.saveIndices, restoreIndices_of_drops hdrops b.saveIndices, rfl, rfl, rfl, rfl⟩
  · rw [Buffer.restoreIndices, hnone]

/-! ### Reads -/

/-- A byte outside the contents is not read (R145, R156). -/
theorem readByte_of_size_le {b : Buffer} {k : Nat} (h : b.size ≤ k) : b.readByte k = .refused .bufferPrecondition :=
  if_neg (Nat.not_lt.2 h)

/-- A read with limit 1 is a read of that byte (R144). -/
theorem read_one (b : Buffer) (k : Nat) : b.read k 1 = andThen (b.readByte k) fun v => .next (.one v) := by
  rw [Buffer.read, if_neg (by omega), if_pos rfl, Int.toNat_natCast]

/-- Settles O20, shape by shape. -/
theorem bufferReads : Obligations.BufferReads := by
  intro b offset limit hb
  refine ⟨fun hempty => read_eq_next.2 (.inl ⟨hempty, rfl⟩), ?inside, ?outside, ?many⟩
  case inside =>
    rintro k rfl rfl hk
    rw [← length_contents hb] at hk
    have hv : b.contents[k]? = some b.contents[k] := List.getElem?_eq_getElem hk
    have hread := readByte_eq hb hv
    exact ⟨_, hv, by rw [read_one, hread, andThen_next], hread⟩
  case outside =>
    rintro k rfl rfl hk
    have hread := readByte_of_size_le hk
    exact ⟨by rw [read_one, hread, andThen_refused], hread⟩
  case many =>
    rintro k n rfl rfl hn
    exact read_eq_next.2 (.inr (.inr ⟨by omega, by omega, length_contents hb, rfl⟩))

/-! ### `setByte` -/

/-- Both forms of the index name the heap's byte at `start + k` (R151). -/
theorem setByte_eq {b : Buffer} {index : Int} {k : Nat} (hk : k < b.size)
    (hindex : index = k ∨ index = (k : Int) - b.size) (v : Byte) :
    b.setByte index v = .next { b with heap := b.heap.write (b.start + k) [v] } := by
  unfold Buffer.setByte
  rcases hindex with rfl | rfl
  · rw [if_pos (by omega), Int.toNat_natCast]
  · have hplace : b.stop - (-((k : Int) - b.size)).toNat = b.start + k := by
      simp only [Buffer.size] at hk ⊢
      omega
    rw [if_neg (by omega), if_pos (by omega), hplace]

/-- An index outside the contents is refused (R151, R156). -/
theorem setByte_refused {b : Buffer} {index : Int} (h : (b.size : Int) ≤ index ∨ index < -(b.size : Int)) (v : Byte) :
    b.setByte index v = .refused .bufferPrecondition := by
  rw [Buffer.setByte, if_neg (by omega), if_neg (by omega)]

/-- Settles O21: a one-byte write inside the window. -/
theorem bufferSetByte : Obligations.BufferSetByte := by
  intro b index v hb
  obtain ⟨-, -, hheap, -, hlen⟩ := (buffer_wf_iff b).1 hb
  refine ⟨fun k hk hindex => ⟨_, setByte_eq hk hindex v, ?_, rfl, rfl, rfl, rfl, fun a ha => ?_⟩,
    fun h => setByte_refused h v⟩
  · have hwindow : b.start + k < b.stop := by
      simp only [Buffer.size] at hk
      omega
    exact slice_write_one hheap v hwindow hlen
  · refine read_write_outside hheap ?_
    rw [List.length_singleton]
    omega

end Sys2Proof.Machine
end

section
/-! SUPPORT. The stores of one code in a decode table (41_code_tables.md rules R160 and R166): O14. -/

namespace Sys2Proof

/-- Settles O14: `getElem?_populateFrom` says which slots take the value, and the stride's remainder is a divisibility. -/
theorem populateStride : Obligations.PopulateStride := by
  intro table start w v p hp
  refine ⟨length_populateFrom .., ?_⟩
  rw [populate, getElem?_populateFrom, List.getElem?_eq_getElem hp, Option.map_some, apply_ite some]
  simp only [Nat.zero_add, Nat.dvd_iff_mod_eq_zero]

end Sys2Proof
end

section
/-! SUPPORT. Where the EXPLODE unit executes nothing (43_explode_engine.md rules R200, R205, R206, R209; 10_state.md rule R49;
70_reset_and_hazards.md rule R350): O30 and O36. -/

namespace Sys2Proof.Machine

/-! ### Tokens and headers -/

/-- What may stand at a token boundary, whatever the tables (R105, R106, R107, R109). -/
theorem shape_of_wellFormed_token {k : CodeTables} {mode : CompressionMode} {i : Instr}
    (h : wellFormed k (.token mode) i = true) :
    (∃ b, i.shape = .literalBinary b ∨ i.shape = .literalAscii b) ∨ (∃ c e, i.shape = .length c e) ∨
      i.shape = .endOfStream := by
  unfold wellFormed at h
  generalize i.shape = sh at h ⊢
  cases sh with
  | literalBinary b => exact .inl ⟨b, .inl rfl⟩
  | literalAscii b => exact .inl ⟨b, .inr rfl⟩
  | length c e => exact .inr (.inl ⟨c, e, rfl⟩)
  | endOfStream => exact .inr (.inr rfl)
  | header m d seed => cases mode <;> cases h
  | distance p low => cases mode <;> cases h
  | command c => cases mode <;> cases h

/-- Such an instruction executes a token number, END its own (R110, R206). -/
theorem exec_of_wellFormed_token {k : CodeTables} {mode : CompressionMode} {i : Instr}
    (h : wellFormed k (.token mode) i = true) (s : State) :
    ∃ n, exec i s = executeToken n s ∧ (i = .endToken → n = endTokenNumber) := by
  have hne : i.shape ≠ .endOfStream → ∀ {n}, i = .endToken → n = endTokenNumber := fun h _ he =>
    absurd he (ne_endToken_of_shape h)
  rcases shape_of_wellFormed_token h with ⟨b, hs⟩ | ⟨c, e, hs⟩ | hs
  · exact ⟨b.toNat, exec_literal hs s, hne (by rcases hs with hs | hs <;> simp [hs])⟩
  · exact ⟨_, exec_length hs s, hne (by simp [hs])⟩
  · exact ⟨endTokenNumber, by rw [exec_eq_execShape, execShape, hs], fun _ => rfl⟩

theorem executeToken_outsideDecoding {s : State} (hd : s.x.xstate ≠ .decoding) (n : Nat) :
    executeToken n s = .refused .outsideDecoding := if_neg hd

theorem executeDistance_outsideDecoding {s : State} (hd : s.x.xstate ≠ .decoding) (p : Nat) (low : BitVec 6) :
    executeDistance p low s = .refused .outsideDecoding := if_neg hd

theorem executeDistance_noLengthPart {s : State} (hd : s.x.xstate = .decoding) (hn : s.x.repeatLength = none) (p : Nat)
    (low : BitVec 6) : executeDistance p low s = .refused .noLengthPart := by
  unfold executeDistance inDecoding
  rw [if_pos hd, hn]

theorem parseHeader_refused {s : State} (h : s.x.xstate ≠ .awaitingHeader ∨ s.x.inBuf.size < 4) (m d seed : Byte) :
    parseHeader m d seed s = .refused .noHeaderAwaited :=
  if_neg fun ⟨ha, h4⟩ => h.elim (fun h => h ha) fun h => Nat.not_le.2 h h4

/-- Settles O30: what each token part and the header check before anything else. -/
theorem tokensRefused : Obligations.TokensRefused := by
  refine ⟨fun k i s hi hd => ?_, fun i p low s hs hd hn => ?_, fun m d seed s h => parseHeader_refused h m d seed⟩
  · have htoken : ∀ mode, wellFormed k (.token mode) i = true → exec i s = .refused .outsideDecoding := fun mode hw => by
      obtain ⟨n, he, -⟩ := exec_of_wellFormed_token hw s
      rw [he, executeToken_outsideDecoding hd]
    rcases hi with hw | hw | ⟨p, low, hs⟩
    · exact htoken .binary hw
    · exact htoken .ascii hw
    · rw [exec_distance hs, executeDistance_outsideDecoding hd]
  · rw [exec_distance hs, executeDistance_noLengthPart hd hn]

/-! ### Commands -/

/-- A running push is that of a unit that was reset (R49). -/
theorem live_of_space {x : XUnit} {sp : Space} (h : x.space? = some sp) : x.live = true := by
  unfold XUnit.space? at h
  split at h
  · assumption
  · cases h

/-- A unit that was never reset takes no command but RESET (R49, R200). -/
theorem explode_neverReset {s : State} (hl : s.x.live = false) (bytes : List Byte) :
    exec (.xPush bytes) s = .refused .neverReset ∧ exec .xFinish s = .refused .neverReset := ⟨if_pos hl, if_pos hl⟩

/-- A running push takes no second command (R350). -/
theorem explode_commandInProgress {s : State} (hsp : s.x.space?.isSome = true) (bytes : List Byte) :
    exec (.xPush bytes) s = .refused .commandInProgress ∧ exec .xFinish s = .refused .commandInProgress := by
  obtain ⟨sp, h⟩ := Option.isSome_iff_exists.1 hsp
  have hl : ¬s.x.live = false := by rw [live_of_space h]; decide
  exact ⟨(if_neg hl).trans (if_pos hsp), (if_neg hl).trans (if_pos hsp)⟩

/-- A compressor that was never reset takes no command but RESET (R49, R230). -/
theorem implode_neverReset {s : State} (hl : s.i.live = false) (bytes : List Byte) :
    exec (.iPush bytes) s = .refused .neverReset ∧ exec .iFinish s = .refused .neverReset := ⟨if_pos hl, if_pos hl⟩

/-- Settles O36: each command checks its unit, and a RESET the tables, before anything else. -/
theorem commandsRefused : Obligations.CommandsRefused := fun _ bytes =>
  ⟨fun h => explode_neverReset h bytes, fun h => implode_neverReset h bytes, fun h => explode_commandInProgress h bytes,
    fun h => ⟨withLegalTables_refused h, fun _ _ => withLegalTables_refused h⟩⟩

end Sys2Proof.Machine
end

section
/-! SUPPORT. What `X.PUSH` and `X.FINISH` answer (43_explode_engine.md rules R203, R204, R215, R216): O32 and O33. -/

namespace Sys2Proof.Machine

/-- Settles O32: an append grows `inBuf` by the bytes, and its size says whether the header is there. -/
theorem xPushResult : Obligations.XPushResult := by
  intro s bytes hl hin
  have hsize := size_append hin bytes
  have hgrew := append_grew hin bytes
  refine ⟨fun ha hlt => ⟨_, ?_, hgrew⟩, fun ha hshort h4 => ?_, fun hs =>
    ⟨_, execXPush_suspended hl hs, rfl, hgrew⟩⟩
  · rw [execXPush_awaitingHeader hl ha (by omega), if_pos (by omega)]
  · have hpush := execXPush_awaitingHeader (bytes := bytes) hl ha hshort
    rw [if_neg (by omega)] at hpush
    refine ⟨_, hpush, rfl, hgrew, ?_⟩
    rw [space_awaitingHeader (by exact hl) (by exact ha), if_pos (by dsimp only; omega)]

/-- Settles O33: the three ways `X.FINISH` goes; after the first in Complete the buffer is empty. -/
theorem xFinishResult : Obligations.XFinishResult := by
  intro s hl hout
  refine ⟨execXFinish_error hl, fun hc => ⟨_, execXFinish_complete hl hc hout, contents_clear _, clear_heap _,
    fun t ht => ?_⟩, fun h => ?_⟩
  · have hclear : t.x.outBuf = s.x.outBuf.clear := by rw [ht]
    have hsame : ({ t with x := { t.x with outBuf := t.x.outBuf.clear } } : State) = t := by
      have : t.x.outBuf.clear = t.x.outBuf := by rw [hclear]; rfl
      rw [this]
    rw [execXFinish_complete (by rw [ht]; exact hl) (by rw [ht]; exact hc) (by rw [hclear]; exact wf_clear hout), hsame,
      hclear, contents_clear]
  · rcases h with hx | ⟨hx, hshort⟩
    · exact execXFinish_abort hl (space_none (.inl hx)) (.inr hx) hout
    · have hsp : s.x.space? = none := by rw [space_awaitingHeader hl hx, if_neg (Nat.not_le.2 hshort)]
      exact execXFinish_abort hl hsp (.inl hx) hout

end Sys2Proof.Machine
end

section
/-! SUPPORT. A token that lacks input (43_explode_engine.md rules R209, R213): O37 and O38. -/

namespace Sys2Proof.Machine

/-- A running push that reads a token stands at a token boundary, in the mode of its stream (R206). -/
theorem space_eq_token {x : XUnit} {mode : CompressionMode} (h : x.space? = some (.token mode)) :
    x.live = true ∧ x.xstate = .decoding ∧ x.repeatLength = none ∧ mode = x.mode := by
  rcases space_eq_some h with ⟨-, -, he⟩ | ⟨hd, hn, he⟩ | ⟨-, n, -, he⟩
  · cases he
  · exact ⟨live_of_space h, hd, hn, Space.token.inj he⟩
  · cases he

/-- The unit suspended as it stood at a token boundary, with what a drain leaves of its output (R213, R203). -/
def XUnit.suspendedWith (x : XUnit) (b : Buffer) : XUnit :=
  { x.backup with xstate := .suspended, needMoreInput := true, repeatLength := none, outBuf := b }

/-- Wherever a token lacks input, the push ends with the unit as it stood at the token's beginning (R209, R213). -/
theorem suspendPush_since {s : State} {y : XUnit} (hy : s.x.Since y) (hout : s.x.outBuf.wf = true) :
    ∃ b, suspendPush { s with x := y } = .next (({ s with x := s.x.suspendedWith b } : State).respond
        ⟨.ready, .none, s.x.outBuf.contents.take (drainCount s.cfg.blockX s.x.outBuf.size)⟩) ∧
      b.contents = s.x.outBuf.contents.drop (drainCount s.cfg.blockX s.x.outBuf.size) := by
  obtain ⟨b, hdrain, hcontents, -⟩ := drain_releases s.cfg.blockX hout
  exact ⟨b, suspendPush_eq_next.2 ⟨_, suspend_since hy, finishPush_eq_next.2 ⟨b, _, hdrain, rfl⟩⟩, hcontents⟩

/-- At a token boundary there is no length part to forget. -/
theorem suspendedWith_eq {x : XUnit} (hn : x.repeatLength = none) (b : Buffer) : x.suspendedWith b =
    { x with xstate := .suspended, needMoreInput := true, snap := some (x.bitBuffer, x.extraBits)
             inBuf := { x.inBuf with saved := some (x.inBuf.start, x.inBuf.stop) }, outBuf := b } := by
  unfold XUnit.suspendedWith
  rw [← hn]
  rfl

/-- Settles O37: what the failed decode consumed is between the backup and the restore. -/
theorem suspendRestores : Obligations.SuspendRestores := by
  intro s mode r h hsp hdec
  obtain ⟨-, -, hn, -⟩ := space_eq_token hsp
  obtain ⟨b, hsuspend, hcontents⟩ := suspendPush_since ((since_backup s.x).commit r) h.x.outBufWf
  rw [suspendedWith_eq hn] at hsuspend
  exact ⟨b, (step_of_needMoreInput hsp hdec).trans hsuspend, hcontents⟩

/-- The step at a token boundary that leaves a length part decoded has executed one: since the backup nothing but the reader
and the repeat length has changed (R206, R209). -/
theorem since_of_length_step {s t : State} {mode : CompressionMode} {n : Nat} (h : s.Inv)
    (hsp : s.x.space? = some (.token mode)) (ht : step s = .next t) (hn : t.x.repeatLength = some n) :
    s.x.Since t.x ∧ t = { s with x := t.x } := by
  obtain ⟨-, hd, hnone, rfl⟩ := space_eq_token hsp
  cases hdec : decode s.cfg.tables s.x.tables (.token s.x.mode) s.x.reader with
  | instr i r =>
    have hwf := (decode_reads (config_legal h.cfg).2.2 rfl (h.x.ready hd) h.x.readerWf hdec).1
    obtain ⟨m, hexec, -⟩ := exec_of_wellFormed_token hwf { s with x := s.x.backup.commit r }
    rw [step_of_instr hsp hdec] at ht
    obtain ⟨-, ⟨-, hend⟩ | ⟨-, -, rfl⟩ | ⟨-, rfl⟩⟩ := executeToken_eq_next.1 (hexec.symm.trans ht)
    · obtain ⟨b, out, -, rfl⟩ := finishPush_eq_next.1 hend
      cases hn
    · exact ⟨((since_backup s.x).commit r).withLength _, rfl⟩
    · cases hnone.symm.trans hn
  | needMoreInput r =>
    obtain ⟨b, hsuspend, -⟩ := suspendPush_since ((since_backup s.x).commit r) h.x.outBufWf
    cases ht.symm.trans ((step_of_needMoreInput hsp hdec).trans hsuspend)
    cases hn
  | unfilledEntry =>
    rw [step_of_unfilledEntry hsp hdec] at ht
    cases ht

/-- Settles O38: the backup before the flag bit is the only one, so the restore undoes the length part too. -/
theorem copyRollback : Obligations.CopyRollback := by
  intro s s₁ mode n r h hsp hstep hn hdec
  obtain ⟨hsince, hs₁⟩ := since_of_length_step h hsp hstep hn
  obtain ⟨hlive, hd, -, -⟩ := space_eq_token hsp
  obtain ⟨hl₁, hd₁, -⟩ := hsince.fields
  obtain ⟨b, hsuspend, hcontents⟩ := suspendPush_since (hsince.commit r) h.x.outBufWf
  have hsame : ({ s₁ with x := s₁.x.commit r } : State) = { s with x := s₁.x.commit r } := by rw [hs₁]
  have hstep₁ := step_of_needMoreInput (space_distance (hl₁.trans hlive) (hd₁.trans hd) hn) hdec
  refine ⟨_, hstep₁.trans ((congrArg suspendPush hsame).trans hsuspend), rfl, rfl, rfl, rfl, rfl, rfl, rfl, _, rfl, ?_⟩
  exact (congrArg (_ ++ ·) hcontents).trans (List.take_append_drop ..)

end Sys2Proof.Machine
end

section
/-! SUPPORT. A running push goes on and ends (30_encoding.md rule R116, 43_explode_engine.md rule R206): O39 and O40. -/

namespace Sys2Proof.Machine

/-- What one step makes of a running push: its end, with one answer, or a push that still runs, has given no answer, and
holds fewer bits. The host's commands and the other unit stay. -/
inductive PushAdvances (s t : State) : Prop
  | ended (answered : AnsweredOnce s t) (implode : t.i = s.i) (idle : t.x.space? = none)
  | goesOn (host : t.host = s.host) (responses : t.responses = s.responses) (implode : t.i = s.i)
      (running : t.x.space?.isSome = true) (fewer : t.x.pendingBits < s.x.pendingBits)

/-- The bits a unit holds beyond the current byte are its reader's but for that byte (R29, R206). -/
theorem avail_reader {x : XUnit} (hb : x.inBuf.wf = true) : x.reader.avail = 8 + x.pendingBits := by
  have := length_contents hb
  simp only [BitReader.avail, XUnit.reader, XUnit.pendingBits]
  omega

/-- A part that decodes uses up bits (R206). -/
theorem pendingBits_commit_lt {x : XUnit} {r : BitReader} (hb : x.inBuf.wf = true) (hp : x.reader.Passes r) :
    (x.commit r).pendingBits < x.pendingBits := by
  have hbefore := avail_reader hb
  have hafter := avail_reader (commit_inBuf_wf r hb)
  rw [commit_reader hb hp.input] at hafter
  have := hp.avail
  omega

/-- `backup()` moves neither the reader nor the output (R208). -/
theorem atBoundary_fields (x : XUnit) (sp : Space) :
    (x.atBoundary sp).inBuf.wf = x.inBuf.wf ∧ (x.atBoundary sp).reader = x.reader ∧
      (x.atBoundary sp).pendingBits = x.pendingBits ∧ (x.atBoundary sp).outBuf = x.outBuf := by
  cases sp <;> exact ⟨rfl, rfl, rfl, rfl⟩

/-- A unit that is decoding runs a push (R206, R209). -/
theorem running_of_decoding {x : XUnit} (hl : x.live = true) (hd : x.xstate = .decoding) : x.space?.isSome = true := by
  cases hn : x.repeatLength with
  | none => rw [space_token hl hd hn]; rfl
  | some n => rw [space_distance hl hd hn]; rfl

section
variable {s : State} {y : XUnit}

/-- The drain and the answer end the push (R203). -/
theorem finishPush_advances (h : s.Inv) (hb : y.outBuf.wf = true) (hy : y.xstate = .suspended ∨ y.xstate = .complete) :
    ∃ t, finishPush { s with x := y } = .next t ∧ PushAdvances s t := by
  obtain ⟨b, out, hf, -⟩ := finishPush_spec (s := { s with x := y }) hb
    (Nat.le_trans (by decide) (config_legal h.cfg).1)
  exact ⟨_, hf, .ended ⟨rfl, by simp⟩ rfl (space_none (hy.imp_right .inl))⟩

/-- An error ends the push (R307). -/
theorem raiseX_advances (code : ErrorCode) (hb : y.outBuf.wf = true) :
    ∃ t, raiseX code { s with x := y } = .next t ∧ PushAdvances s t :=
  ⟨_, raiseX_spec code hb, .ended ⟨rfl, by simp [State.raisedX]⟩ rfl (space_none (.inr (.inr rfl)))⟩

/-- A part that lacks input ends the push (R213). -/
theorem suspendPush_advances (h : s.Inv) (hundo : y.Restorable) (hb : y.outBuf.wf = true) (r : BitReader) :
    ∃ t, suspendPush { s with x := y.commit r } = .next t ∧ PushAdvances s t := by
  obtain ⟨x', hx', -⟩ := hundo
  have hsuspend : (y.commit r).suspend = .next _ := (suspend_commit y r).trans (suspend_eq_next.2 ⟨x', hx', rfl⟩)
  obtain ⟨p, q, -, -, rfl⟩ := restore_eq_next.1 hx'
  obtain ⟨t, ht, hadv⟩ := finishPush_advances (y := { y with
    bitBuffer := p.1, extraBits := p.2, inBuf := { y.inBuf with start := q.1, stop := q.2 }
    xstate := .suspended, needMoreInput := true, repeatLength := none }) h hb (.inl rfl)
  exact ⟨t, suspendPush_eq_next.2 ⟨_, hsuspend, ht⟩, hadv⟩

/-- Any token number can be executed: END ends the push, and the others leave it running (R206, R207, R212). -/
theorem executeToken_advances (h : s.Inv) (n : Nat) (hl : y.live = true) (hd : y.xstate = .decoding)
    (hb : y.outBuf.wf = true) (hfewer : n ≠ endTokenNumber → y.pendingBits < s.x.pendingBits) :
    ∃ t, executeToken n { s with x := y } = .next t ∧ PushAdvances s t := by
  by_cases hend : n = endTokenNumber
  · obtain ⟨t, ht, hadv⟩ := finishPush_advances (y := y.complete) h hb (.inr rfl)
    exact ⟨t, executeToken_eq_next.2 ⟨hd, .inl ⟨hend, ht⟩⟩, hadv⟩
  rcases Nat.lt_or_ge n 0x100 with hlit | hlen
  · exact ⟨_, executeToken_eq_next.2 ⟨hd, .inr (.inr ⟨hlit, rfl⟩)⟩,
      .goesOn rfl rfl rfl (running_of_decoding hl hd) (hfewer hend)⟩
  · exact ⟨_, executeToken_eq_next.2 ⟨hd, .inr (.inl ⟨hend, hlen, rfl⟩)⟩,
      .goesOn rfl rfl rfl (running_of_decoding hl hd) (hfewer hend)⟩

/-- Any distance can be executed after a length part: the history reaches it or the unit fails (R210, R211). -/
theorem executeDistance_advances (p : Nat) (low : BitVec 6) {n : Nat} (hl : y.live = true) (hd : y.xstate = .decoding)
    (hn : y.repeatLength = some n) (hb : y.outBuf.wf = true) (hfewer : y.pendingBits < s.x.pendingBits) :
    ∃ t, executeDistance p low { s with x := y } = .next t ∧ PushAdvances s t := by
  rcases Nat.lt_or_ge y.outBuf.size (trueDistance n y.dictBits p low.toNat) with hlt | hle
  · obtain ⟨t, ht, hadv⟩ := raiseX_advances (s := s) .distanceBeyondHistory hb
    exact ⟨t, executeDistance_eq_next.2 ⟨hd, n, hn, .inl ⟨hlt, ht⟩⟩, hadv⟩
  · have hcopied := copiedBytes_eq (Nat.le_add_left 1 _) (hle.trans_eq (length_contents hb).symm) n
    exact ⟨_, executeDistance_eq_next.2 ⟨hd, n, hn, .inr ⟨hle, _, hcopied, rfl⟩⟩,
      .goesOn rfl rfl rfl (running_of_decoding hl hd) hfewer⟩

/-- A header with 4 bytes buffered is legal, and its three bytes are dropped, or it fails the unit (R205, R310). -/
theorem parseHeader_advances (h : s.Inv) (hl : s.x.live = true) (ha : s.x.xstate = .awaitingHeader)
    (h4 : 4 ≤ s.x.inBuf.size) (m d seed : Byte) : ∃ t, parseHeader m d seed s = .next t ∧ PushAdvances s t := by
  cases hm : CompressionMode.ofByte m with
  | none =>
    obtain ⟨t, ht, hadv⟩ := raiseX_advances (s := s) .invalidCompressionType h.x.outBufWf
    exact ⟨t, parseHeader_eq_next.2 ⟨⟨ha, h4⟩, .inl ⟨hm, ht⟩⟩, hadv⟩
  | some mode =>
    cases hdict : DictionarySize.ofByte d with
    | none =>
      obtain ⟨t, ht, hadv⟩ := raiseX_advances (s := s) .invalidDictionarySize h.x.outBufWf
      exact ⟨t, parseHeader_eq_next.2 ⟨⟨ha, h4⟩, .inr ⟨mode, hm, .inl ⟨hdict, ht⟩⟩⟩, hadv⟩
    | some dict =>
      have hsize := size_dropStart s.x.inBuf 3
      refine ⟨s.parsed mode dict seed, parseHeader_eq_next.2 ⟨⟨ha, h4⟩, .inr ⟨mode, hm, .inr ⟨dict, hdict, rfl⟩⟩⟩,
        .goesOn rfl rfl rfl (running_of_decoding hl rfl) ?_⟩
      change 8 * (s.x.inBuf.dropStart 3).size + 0 < 8 * s.x.inBuf.size + _
      omega

/-- A step that reads a token part advances the push: the decoder meets no unfilled entry, and a part that lacks input can be
undone (R116, R206, R213). -/
theorem step_part_advances (h : s.Inv) {sp : Space} (hsp : s.x.space? = some sp) (hstream : sp.inStream = true)
    (hready : s.x.tables.ready s.cfg.tables sp = true) (hundo : (s.x.atBoundary sp).Restorable)
    (hexec : ∀ i r, wellFormed s.cfg.tables sp i = true →
      (i ≠ .endToken → ((s.x.atBoundary sp).commit r).pendingBits < s.x.pendingBits) →
      ∃ t, exec i { s with x := (s.x.atBoundary sp).commit r } = .next t ∧ PushAdvances s t) :
    ∃ t, step s = .next t ∧ PushAdvances s t := by
  have hk := (config_legal h.cfg).2.2
  obtain ⟨hwf, hreader, hbits, hout⟩ := atBoundary_fields s.x sp
  cases hdec : decode s.cfg.tables s.x.tables sp s.x.reader with
  | instr i r =>
    obtain ⟨hi, hpasses⟩ := decode_reads hk hstream hready h.x.readerWf hdec
    rw [step_of_instr hsp hdec]
    refine hexec i r hi fun hne => hbits ▸ pendingBits_commit_lt (hwf.trans h.x.inBufWf) ?_
    exact hreader.symm ▸ hpasses hne
  | needMoreInput r =>
    rw [step_of_needMoreInput hsp hdec]
    exact suspendPush_advances h hundo (hout ▸ h.x.outBufWf) r
  | unfilledEntry => exact absurd hdec (decode_ne_unfilledEntry hk hstream hready h.x.readerWf)

/-- Every step of a running push advances it (R116, R206). -/
theorem step_advances (h : s.Inv) {sp : Space} (hsp : s.x.space? = some sp) :
    ∃ t, step s = .next t ∧ PushAdvances s t := by
  have hl := live_of_space hsp
  rcases space_eq_some hsp with ⟨ha, h4, rfl⟩ | ⟨hd, -, rfl⟩ | ⟨hd, n, hn, rfl⟩
  · obtain ⟨m, d, seed, hdec⟩ := decode_header (k := s.cfg.tables) (u := s.x.tables) h.x.inBufWf h4
    have hstep := step_of_instr hsp hdec
    rw [show s.x.atBoundary .header = s.x from rfl, commit_self h.x.inBufWf] at hstep
    exact hstep ▸ parseHeader_advances h hl ha h4 m d seed
  · refine step_part_advances h hsp rfl (h.x.ready hd) (restorable_backup h.x.inBufWf h.x.readerWf) fun i r hwf hfewer => ?_
    obtain ⟨n, hexec, hend⟩ := exec_of_wellFormed_token hwf { s with x := s.x.backup.commit r }
    exact hexec ▸ executeToken_advances h n hl hd h.x.outBufWf fun hne => hfewer fun hi => hne (hend hi)
  · obtain ⟨-, h2, hle, hundo⟩ := h.x.midCopy n hn
    have hstream : (Space.distance n s.x.dictBits s.x.distMask).inStream = true := by
      simp [Space.inStream, h2, hle, h.x.geometry.1]
    refine step_part_advances h hsp hstream (ready_token (h.x.ready hd) ..) hundo fun i r hwf hfewer => ?_
    obtain ⟨-, p, low, hp, -, rfl⟩ := distance_cases hwf
    have hshape := shape_distancePart hp (BitVec.ofNat 6 low)
    rw [exec_distance hshape]
    exact executeDistance_advances p _ hl hd hn h.x.outBufWf (hfewer (ne_endToken_of_shape (by simp [hshape])))

end

/-- Settles O39: every step of a running push advances it. -/
theorem pushProgress : Obligations.PushProgress := by
  intro s sp h hsp
  obtain ⟨t, ht, hadv⟩ := step_advances h hsp
  refine ⟨t, ht, ?_⟩
  cases hadv with
  | ended answered _ idle => exact .inl ⟨idle, answered.responses⟩
  | goesOn _ responses _ running fewer => exact .inr ⟨running, responses, fewer⟩

/-- A running push ends, by induction on the bits it holds, since a step that does not end it uses some up (R206). -/
theorem push_ends {s : State} (h : s.Inv) (hsp : s.x.space?.isSome = true) :
    ∃ n t, n ≤ s.x.pendingBits + 1 ∧ Host.Core.run Sys2Proof.core n s = .next t ∧ t.x.space? = none ∧
      AnsweredOnce s t ∧ t.i = s.i := by
  induction hbits : s.x.pendingBits using Nat.strong_induction_on generalizing s with
  | _ bits ih =>
    obtain ⟨sp, hsp⟩ := Option.isSome_iff_exists.1 hsp
    obtain ⟨t, ht, hadv⟩ := step_advances h hsp
    cases hadv with
    | ended answered implode idle => exact ⟨1, t, by omega, by rw [run_succ, ht]; rfl, idle, answered, implode⟩
    | goesOn host responses implode running fewer =>
      obtain ⟨n, u, hn, hrun, hidle, hans, hi⟩ := ih _ (hbits ▸ fewer) (stepKeepsInv s t h ht) running rfl
      exact ⟨n + 1, u, by omega, by rw [run_succ, ht]; exact hrun, hidle,
        ⟨hans.host.trans host, by rw [hans.responses, responses]⟩, hi.trans implode⟩

/-- Settles O40: what `push_ends` says of one answer. -/
theorem pushEnds : Obligations.PushEnds := by
  intro s h hsp
  obtain ⟨n, t, hn, hrun, hidle, hans, hi⟩ := push_ends h hsp
  exact ⟨n, t, hn, hrun, hidle, hans.responses, hans.host, hi⟩

end Sys2Proof.Machine
end

section
/-! SUPPORT. The encode tables, entry by entry (44_implode_match.md rules R232 to R234): O16. -/

namespace Sys2Proof.Machine

/-- A table that gives each length code as many entries as it has values of extra bits ends code `c` where the next one
begins (R119 item 4). -/
theorem length_lengthFamily {α : Type} {k : CodeTables} (hk : k.legal = true) {f : Nat → List α}
    (hf : ∀ c, (f c).length = 2 ^ k.exLenBits.getD c 0) {c : Nat} (hc : c < 16) :
    ((List.range (c + 1)).flatMap f).length = k.lenBase.getD c 0 + 2 ^ k.exLenBits.getD c 0 := by
  induction c with
  | zero =>
    rw [Nat.zero_add, List.range_one, List.flatMap_singleton, hf, (legal_ends hk).2.2.1, Nat.zero_add]
  | succ c ih =>
    have hnext := legal_lenBase_succ hk (c := c) (by omega)
    rw [if_neg (by omega)] at hnext
    rw [List.range_succ, List.flatMap_append, List.length_append, List.flatMap_singleton, hf, ih (by omega), hnext]

/-- The length families and END have 0x206 entries (R234). -/
theorem length_lengthFamily_all {α : Type} {k : CodeTables} (hk : k.legal = true) {f : Nat → List α}
    (hf : ∀ c, (f c).length = 2 ^ k.exLenBits.getD c 0) : ((List.range 16).flatMap f).length = 0x206 := by
  rw [length_lengthFamily hk hf (c := 15) (by decide)]
  exact (legal_lenBase_succ hk (c := 15) (by decide)).symm

/-- The encode tables have an entry for every token number (R232 to R234). -/
theorem length_encodeTables {k : CodeTables} (hk : k.legal = true) (mode : CompressionMode) :
    (literalBitsTable k mode).length = nSymbols ∧ (literalCodesTable k mode).length = nSymbols := by
  obtain ⟨⟨l, h1, hl⟩, l', h2, hl'⟩ := encodeTables_split hk mode
  rw [hl, hl', List.length_append, List.length_append, h1, h2]
  have hbits : (lengthFamilyBits k).length = 0x206 := length_lengthFamily_all hk fun _ => List.length_replicate
  have hcodes : (lengthFamilyCodes k).length = 0x206 :=
    length_lengthFamily_all hk fun _ => by rw [List.length_map, List.length_range]
  rw [hbits, hcodes]
  exact ⟨rfl, rfl⟩

/-- A length part has the pattern of its code and extra bits (R107); what it would be with END's is END's (R109). -/
theorem encode_lengthPart (k : CodeTables) (sp : Space) {c e : Nat} (hc : c < 16) (he : e < 2 ^ 8) (h0 : c = 0 → e = 0) :
    encode k sp (lengthPart c e) = lengthCode k c e := by
  unfold encode
  rw [shape_lengthPart hc he h0]

/-- END's token number is that of code 15 with all extra bits set (R109). -/
theorem lengthToken_end {k : CodeTables} (hk : k.legal = true) : lengthToken k 15 0xFF = endTokenNumber := by
  rw [lengthToken, (legal_ends hk).2.1]

/-- END with the default tables (R256). -/
theorem lengthCode_end_of_standard {k : CodeTables} (h : k.values = TableValues.standard) :
    lengthCode k 15 0xFF = ⟨16, 0xFF01⟩ := by
  simp only [lengthCode, CodeTables.lenBits, CodeTables.lenCode, CodeTables.exLenBits, h]
  decide

/-- Settles O16: the literals' entries come first, and each length code's begin at its `LenBase`. -/
theorem encodeTables : Obligations.EncodeTables := by
  intro k mode hk
  obtain ⟨hbits, hcodes⟩ := length_encodeTables hk mode
  obtain ⟨hendBits, hendCode⟩ :=
    encodeTables_length hk mode (c := 15) (e := 0xFF) (by decide) (by rw [(legal_ends hk).1]; decide)
  rw [lengthToken_end hk] at hendBits hendCode
  refine ⟨hbits, hcodes, fun b => encodeTables_literal hk mode .small b, fun c e _ hc he => ?_,
    hendBits, hendCode, lengthCode_end_of_standard⟩
  obtain ⟨he8, h0⟩ := exLenBits_pow_le hk hc he
  rw [encode_lengthPart k (.token mode) hc he8 h0]
  exact encodeTables_length hk mode hc he

end Sys2Proof.Machine
end

section
/-! SUPPORT. One step of the scan, with what it emits (44_implode_match.md rules R236 and R240, 45_implode_emit.md rule
R258). -/

namespace Sys2Proof.Machine

/-! ### Eviction -/

@[simp] theorem evict_position (i : IUnit) : (evict i).position = i.position := by
  unfold evict
  split <;> rfl

/-- Eviction drops history only: the bytes that are not scanned stay (R258). -/
theorem evict_unscanned {i : IUnit} (hb : i.inBuf.wf = true) :
    (evict i).inBuf.size - (evict i).cursor = i.inBuf.size - i.cursor := by
  obtain ⟨n, b, hev, hcon, hbwf, hn, -⟩ := evict_spec i hb
  have hbs := length_contents hbwf
  rw [hcon, List.length_drop, length_contents hb] at hbs
  rw [hev]
  dsimp only
  omega

/-! ### A step past the first two bytes -/

section
variable {k : CodeTables} {i v : IUnit}

/-- The unit `j` comes from `i` by a scan step whose token stands for `size` bytes (R240): bits were written, those bytes
are scanned, and the registers that a scan has no rule for are as they were. -/
structure IUnit.StepsOver (k : CodeTables) (size : Nat) (i j : IUnit) : Prop where
  encoding : j.Encoding k
  flag : j.handledFirstTwoBytes = true
  unscanned : j.inBuf.size - j.cursor + size = i.inBuf.size - i.cursor
  registers : (j.mode, j.dictBits, j.streamEnded, j.istate, j.err) = (i.mode, i.dictBits, i.streamEnded, i.istate, i.err)
  position : i.position < j.position

/-- A token that was written and passed by the cursor, then the eviction (R240, R258). -/
theorem IUnit.Encoding.stepsOver (h : i.Encoding k) {code : Code} (hw : i.Writes code v) (hwidth : 1 ≤ code.width)
    {size : Nat} (hsize : i.cursor + size ≤ i.inBuf.size) (hmost : size ≤ 0x204)
    (hfirst : i.handledFirstTwoBytes = true) : i.StepsOver k size (evict { v with cursor := i.cursor + size }) := by
  have henc := (h.advance hw hsize hmost hfirst).encoding
  have hin : v.inBuf = i.inBuf := by rw [hw.eq]
  have hun := evict_unscanned (i := { v with cursor := i.cursor + size }) (hin ▸ h.inBufWf)
  have hpos : (evict { v with cursor := i.cursor + size }).position = i.position + code.width :=
    (evict_position _).trans hw.position
  obtain ⟨n, b, hev, -⟩ := evict_spec { v with cursor := i.cursor + size } (hin ▸ h.inBufWf)
  refine ⟨henc, ?_, ?_, ?_, by omega⟩
  · rw [hev, hw.eq]
    exact hfirst
  · rw [hun, hin]
    dsimp only
    omega
  · rw [hev, hw.eq]

/-- A COPY's low distance bits are two at least (R108). -/
theorem token_copy_width_pos (hk : k.legal = true) (mode : CompressionMode) {dict : DictionarySize} {size d : Nat}
    (h2 : 2 ≤ size) (hs : size ≤ 0x204) (hf : flushable size d = true) (hd : d < 2 ^ (dict.bits + 6)) :
    1 ≤ ((Token.copy size d).code k mode dict).width := by
  have hlow := (lowWidth_le size dict).1
  rw [token_copy_code hk mode h2 hs hf hd, Code.followedBy_width]
  exact Nat.le_add_left_of_le (Nat.le_of_succ_le hlow)

/-- A scan step takes the match, where there is a flushable one (R240). -/
theorem IUnit.Encoding.scanStep_match (hk : k.legal = true) (h : i.Encoding k) (hfirst : i.handledFirstTwoBytes = true)
    {size d : Nat} (hm : findRepetitions i.inBuf.contents i.cursor = (size, d)) (hf : flushable size d = true) :
    ∃ u, Machine.emitMatch k size d i = .next u ∧ Machine.scanStep k i = .next (evict u) ∧
      i.StepsOver k size (evict u) := by
  obtain ⟨m, _, heq, -, h2, hmost, hin, -⟩ := findRepetitions_spec (by rw [hm]; exact hf)
  cases hm.symm.trans heq
  have hwindow : i.cursor - m - 1 < i.window.toNat := by
    have := h.cursor.2
    omega
  obtain ⟨v, hv, hw⟩ := emitMatch_writes hk h h2 hmost hf hwindow
  rw [h.geometry.2, (window_toNat i.dictBits).1] at hwindow
  refine ⟨_, hv, scanStep_eq_next.2 ⟨_, .inl (by rw [hm]; exact ⟨hf, hv⟩), rfl⟩, ?_⟩
  exact h.stepsOver hw (token_copy_width_pos hk i.mode h2 hmost hf hwindow) (length_contents h.inBufWf ▸ hin) hmost hfirst

/-- A scan step takes the byte at the cursor as a literal, where there is no flushable match (R240). -/
theorem IUnit.Encoding.scanStep_literal (hk : k.legal = true) (h : i.Encoding k) (hlt : i.cursor < i.inBuf.size)
    (hfirst : i.handledFirstTwoBytes = true) {size d : Nat} (hm : findRepetitions i.inBuf.contents i.cursor = (size, d))
    (hf : flushable size d = false) :
    ∃ b v, i.inBuf.contents[i.cursor]? = some b ∧ emitLiteral b i = .next v ∧
      Machine.scanStep k i = .next (evict { v with cursor := v.cursor + 1 }) ∧
      i.StepsOver k 1 (evict { v with cursor := v.cursor + 1 }) := by
  obtain ⟨b, hb⟩ : ∃ b, i.inBuf.contents[i.cursor]? = some b :=
    ⟨_, List.getElem?_eq_getElem (length_contents h.inBufWf ▸ hlt)⟩
  obtain ⟨v, hv, hw⟩ := emitLiteral_writes hk h i.dictBits b
  have hstep : Machine.scanStep k i = .next (evict { v with cursor := v.cursor + 1 }) :=
    scanStep_eq_next.2 ⟨_, .inr ⟨by rw [hm]; exact hf, b, v, readByte_eq h.inBufWf hb, hv, rfl⟩, rfl⟩
  have hcur : v.cursor = i.cursor := by rw [hw.eq]
  refine ⟨b, v, hb, hv, hstep, ?_⟩
  rw [hcur]
  exact h.stepsOver hw (literal_code_fits hk i.mode i.dictBits b).1 hlt (by decide) hfirst

/-! ### The first two bytes -/

/-- With 3 bytes or more, the first two go out as literals (R236). -/
theorem IUnit.Encoding.firstTwoBytes_literals (hk : k.legal = true) (h : i.Encoding k) (h3 : 3 ≤ i.inBuf.size) :
    ∃ b0 b1 u v, i.inBuf.contents[0]? = some b0 ∧ i.inBuf.contents[1]? = some b1 ∧
      emitLiteral b0 { i with handledFirstTwoBytes := true } = .next u ∧ emitLiteral b1 u = .next v ∧
      Machine.firstTwoBytes i = .next { v with cursor := 2 } ∧
      v = { i with handledFirstTwoBytes := true, outBuf := v.outBuf, outBits := v.outBits } := by
  have hlen := length_contents h.inBufWf
  obtain ⟨b0, hb0⟩ : ∃ b, i.inBuf.contents[0]? = some b := ⟨_, List.getElem?_eq_getElem (by omega)⟩
  obtain ⟨b1, hb1⟩ : ∃ b, i.inBuf.contents[1]? = some b := ⟨_, List.getElem?_eq_getElem (by omega)⟩
  obtain ⟨u, hu, hw⟩ := emitLiteral_writes hk h.withFlag i.dictBits b0
  obtain ⟨v, hv, hw'⟩ := emitLiteral_writes hk (h.withFlag.of_writes hw) i.dictBits b1
  have hin : u.inBuf = i.inBuf := by rw [hw.eq]
  have hread : u.inBuf.readByte 1 = .next b1 := hin ▸ readByte_eq h.inBufWf hb1
  refine ⟨b0, b1, u, v, hb0, hb1, hu, hv,
    firstTwoBytes_eq_next.2 (.inr ⟨h3, b0, b1, u, v, readByte_eq h.inBufWf hb0, hu, hread, hv, rfl⟩), ?_⟩
  conv_lhs => rw [hw'.eq, hw.eq]

end

end Sys2Proof.Machine
end

section
/-! SUPPORT. The two kinds of scan step together (44_implode_match.md rule R237): O48. -/

namespace Sys2Proof

open Machine

/-- Settles O48: a token the scan emits has its bits in the tables, and stands for bytes that are there. -/
theorem scanStep : Obligations.ScanStep := by
  intro k i hk h
  refine ⟨fun hfirst hlt => ?_, fun _ h3 => ?_, fun _ h3 => ?_⟩
  · dsimp only
    rcases hm : findRepetitions i.inBuf.contents i.cursor with ⟨size, d⟩
    cases hf : flushable size d with
    | true =>
      obtain ⟨u, hu, hstep, hon⟩ := h.scanStep_match hk hfirst hm hf
      exact ⟨u, _, hu, hstep, rfl, hon.encoding, hon.flag, hon.unscanned, hon.registers, hon.position⟩
    | false =>
      obtain ⟨b, v, hb, hv, hstep, hon⟩ := h.scanStep_literal hk hlt hfirst hm hf
      exact ⟨_, _, ⟨b, v, hb, hv, rfl⟩, hstep, rfl, hon.encoding, hon.flag, hon.unscanned, hon.registers,
        hon.position⟩
  · obtain ⟨b0, b1, u, v, hb0, hb1, hu, hv, hstep, heq⟩ := h.firstTwoBytes_literals hk h3
    exact ⟨b0, b1, u, v, hb0, hb1, hu, hv, hstep, (h.firstTwoBytes hk hstep).encoding, heq⟩
  · have hstep := firstTwoBytes_eq_next.2 (.inl ⟨h3, rfl⟩)
    exact ⟨hstep, (h.firstTwoBytes hk hstep).encoding⟩

end Sys2Proof
end

section
/-! SUPPORT. `I.RESET` with legal operands (44_implode_match.md rule R231): O49. -/

namespace Sys2Proof.Machine

/-- `I.RESET` with legal operands sets the unit up, whatever it was before (R231). -/
theorem exec_iReset_legal {s : State} (hk : s.cfg.tables.legal = true) (mode : CompressionMode) (dict : DictionarySize) :
    exec (.iReset mode.toByte dict.toByte) s =
      .next (({ s with i := setupI s.cfg.tables mode dict } : State).respond ⟨.ready, .none, []⟩) := by
  refine withLegalTables_eq_next.2 ⟨hk, ?_⟩
  dsimp only
  rw [compressionMode_ofByte_toByte, dictionarySize_ofByte_toByte]

/-- The mask has `dictBits` bits (R24). -/
theorem distMask_toNat (dict : DictionarySize) : dict.distMask.toNat = 2 ^ dict.bits - 1 := by cases dict <;> rfl

/-- `outBuf` holds the three header bytes (R235). -/
theorem setupI_outBuf (k : CodeTables) (mode : CompressionMode) (dict : DictionarySize) :
    (setupI k mode dict).outBuf.contents = [mode.toByte, dict.toByte, 0x00] :=
  contents_append buffer_new_wf _

/-- Settles O49: the registers are those of `setupI`. -/
theorem iResetLegal : Obligations.IResetLegal := fun s mode dict hk =>
  ⟨setupI s.cfg.tables mode dict, exec_iReset_legal hk mode dict, rfl, rfl, rfl, rfl, distMask_toNat dict,
    (window_toNat dict).1, rfl, rfl, setupI_outBuf .., rfl, rfl, rfl, rfl, rfl, rfl⟩

end Sys2Proof.Machine
end

section
/-! SUPPORT. What a token's emission hands to the packer (45_implode_emit.md rules R254 and R256): O42 and O43. -/

namespace Sys2Proof.Machine

/-- Where both encode tables have an entry for a token, its emission is one call of the packer (R251). -/
theorem emitToken_of_entries {i : IUnit} {t n code : Nat} (hn : i.literalBits[t]? = some n)
    (hcode : i.literalCodes[t]? = some code) : emitToken t i = outputBits n code i := by
  unfold emitToken
  rw [hn, hcode]

/-- The packer gets the tables' entries (R251). -/
theorem emitToken_eq_tables {i : IUnit} {t n code : Nat} (hn : i.literalBits[t]? = some n)
    (hcode : i.literalCodes[t]? = some code) :
    emitToken t i = outputBits (i.literalBits.getD t 0) (i.literalCodes.getD t 0) i := by
  rw [emitToken_of_entries hn hcode, List.getD_eq_getElem?_getD, List.getD_eq_getElem?_getD, hn, hcode,
    Option.getD_some, Option.getD_some]

section
variable {k : CodeTables} {i : IUnit}

/-- The unit's tables hold the encoding of each literal (R43, R232, R233). -/
theorem IUnit.Encoding.literal_entries (hk : k.legal = true) (h : i.Encoding k) (b : Byte) :
    i.literalBits[b.toNat]? = some ((Token.literal b).code k i.mode i.dictBits).width ∧
      i.literalCodes[b.toNat]? = some ((Token.literal b).code k i.mode i.dictBits).bits := by
  rw [h.tables.1, h.tables.2]
  exact encodeTables_literal hk i.mode i.dictBits b

/-- The unit's tables hold END's encoding (R43, R234). -/
theorem IUnit.Encoding.end_entries (hk : k.legal = true) (h : i.Encoding k) :
    i.literalBits[endTokenNumber]? = some (lengthCode k 15 0xFF).width ∧
      i.literalCodes[endTokenNumber]? = some (lengthCode k 15 0xFF).bits := by
  rw [h.tables.1, h.tables.2, ← lengthToken_end hk]
  exact encodeTables_length hk i.mode (by decide) (by rw [(legal_ends hk).1]; decide)

end

theorem token_literal_code_binary (k : CodeTables) (dict : DictionarySize) (b : Byte) :
    (Token.literal b).code k .binary dict = ⟨9, b.toNat <<< 1⟩ :=
  encode_litB k (.token .binary) b

end Sys2Proof.Machine

namespace Sys2Proof

open Machine

/-- Settles O42: the tables' entries for a byte are its code of the mode, which the packer writes. -/
theorem emitLiteral : Obligations.EmitLiteral := by
  intro k i b hk h
  obtain ⟨hn, hcode⟩ := h.literal_entries hk b
  have hout : Machine.emitLiteral b i = outputBits _ _ i := emitToken_of_entries hn hcode
  refine ⟨emitToken_eq_tables hn hcode, fun hmode => ?_, fun hmode => ?_, ?_⟩
  · rw [hout, hmode, token_literal_code_binary, Nat.shiftLeft_eq, Nat.pow_one, Nat.mul_comm]
  · rw [hout, hmode, token_literal_code_ascii, Nat.shiftLeft_eq, Nat.pow_one, Nat.mul_comm, Nat.add_comm 1]
  · obtain ⟨j, hj, hw⟩ := emitLiteral_writes hk h i.dictBits b
    exact ⟨j, hj, by rw [hw.eq]⟩

/-- Settles O43: the tables' entries for END are the pattern of length code 15 with all extra bits set. -/
theorem emitEnd : Obligations.EmitEnd := by
  intro k i hk h
  obtain ⟨hn, hcode⟩ := h.end_entries hk
  have hout : Machine.emitEnd i = outputBits _ _ i := emitToken_of_entries hn hcode
  refine ⟨emitToken_eq_tables hn hcode, hout, fun hstandard => ?_⟩
  rw [hout, lengthCode_end_of_standard hstandard]

end Sys2Proof
end

section
/-! SUPPORT. The scan from any unit that is taking input, and `I.PUSH` (44_implode_match.md rule R237, 45_implode_emit.md rules
R260 and R261): O51. -/

namespace Sys2Proof.Machine

/-! ### Step enable -/

/-- With the lookahead hold, a step waits for the longest match there can be (R237, D13). -/
theorem enabled_hold_iff (i : IUnit) : enabled true i = true ↔
    i.cursor < i.inBuf.size ∧ (i.streamEnded = true ∨ 0x204 ≤ i.inBuf.size - i.cursor) := by
  simp [enabled]

/-- Without it, only the first two bytes wait for a third (R237, D13). -/
theorem enabled_noHold_iff (i : IUnit) : enabled false i = true ↔
    i.cursor < i.inBuf.size ∧ (i.streamEnded = true ∨ i.handledFirstTwoBytes = true ∨ 3 ≤ i.inBuf.size) := by
  simp [enabled]

theorem cursor_lt_of_enabled {hold : Bool} {i : IUnit} (hen : enabled hold i = true) : i.cursor < i.inBuf.size := by
  cases hold with
  | true => exact ((enabled_hold_iff i).1 hen).1
  | false => exact ((enabled_noHold_iff i).1 hen).1

/-! ### One round -/

theorem pendingRounds_of_flag {i : IUnit} (hfirst : i.handledFirstTwoBytes = true) :
    i.pendingRounds = i.inBuf.size - i.cursor := by
  rw [IUnit.pendingRounds, if_pos hfirst, Nat.add_zero]

theorem pendingRounds_of_not_flag {i : IUnit} (hfirst : i.handledFirstTwoBytes = false) :
    i.pendingRounds = i.inBuf.size - i.cursor + 1 := by
  rw [IUnit.pendingRounds, hfirst, if_neg Bool.false_ne_true]

/-- The scan loop has fuel for every round there can be (R260). -/
theorem pendingRounds_le (i : IUnit) : i.pendingRounds ≤ i.inBuf.size - i.cursor + 1 := by
  cases hfirst : i.handledFirstTwoBytes with
  | true => exact Nat.le_add_right_of_le (pendingRounds_of_flag hfirst).le
  | false => exact (pendingRounds_of_not_flag hfirst).le

section
variable {k : CodeTables} {i u : IUnit} {hold : Bool}

theorem IUnit.StepsOver.pendingRounds_lt {size : Nat} (h : i.StepsOver k size u) (hsize : 1 ≤ size)
    (hfirst : i.handledFirstTwoBytes = true) : u.pendingRounds < i.pendingRounds := by
  rw [pendingRounds_of_flag h.flag, pendingRounds_of_flag hfirst, ← h.unscanned]
  exact Nat.lt_add_of_pos_right hsize

/-- A scan step never stops, and scans a byte at least (R240). -/
theorem IUnit.Encoding.scanStep_runs (hk : k.legal = true) (h : i.Encoding k) (hlt : i.cursor < i.inBuf.size)
    (hfirst : i.handledFirstTwoBytes = true) :
    ∃ u, Machine.scanStep k i = .next u ∧ u.pendingRounds < i.pendingRounds := by
  rcases hm : findRepetitions i.inBuf.contents i.cursor with ⟨size, d⟩
  cases hf : flushable size d with
  | true =>
    obtain ⟨u, -, hstep, hover⟩ := h.scanStep_match hk hfirst hm hf
    have hsize : size ≠ 0 := fun h0 => (flushable_iff size d).1 hf (.inl h0)
    exact ⟨_, hstep, hover.pendingRounds_lt (Nat.one_le_iff_ne_zero.2 hsize) hfirst⟩
  | false =>
    obtain ⟨b, v, -, -, hstep, hover⟩ := h.scanStep_literal hk hlt hfirst hm hf
    exact ⟨_, hstep, hover.pendingRounds_lt (Nat.le_refl 1) hfirst⟩

/-- The first two bytes' step never stops, and there is no second one (R236). -/
theorem IUnit.Encoding.firstTwoBytes_runs (hk : k.legal = true) (h : i.Encoding k)
    (hfirst : i.handledFirstTwoBytes = false) :
    ∃ u, Machine.firstTwoBytes i = .next u ∧ u.pendingRounds < i.pendingRounds := by
  rw [pendingRounds_of_not_flag hfirst, h.firstTwo hfirst]
  rcases Nat.lt_or_ge i.inBuf.size 3 with h3 | h3
  · refine ⟨_, firstTwoBytes_eq_next.2 (.inl ⟨h3, rfl⟩), ?_⟩
    rw [pendingRounds_of_flag rfl, h.firstTwo hfirst]
    exact Nat.lt_succ_self _
  · obtain ⟨b0, b1, u, v, -, -, -, -, hstep, heq⟩ := h.firstTwoBytes_literals hk h3
    refine ⟨_, hstep, ?_⟩
    rw [heq, pendingRounds_of_flag rfl]
    exact Nat.lt_succ_of_le (Nat.sub_le_sub_left (Nat.zero_le 2) _)

/-- A round of the scan loop never stops, and leaves fewer rounds (R260). -/
theorem IUnit.Encoding.round_runs (hk : k.legal = true) (h : i.Encoding k) (hen : enabled hold i = true) :
    ∃ u, (if i.handledFirstTwoBytes then Machine.scanStep k i else Machine.firstTwoBytes i) = .next u ∧
      i.Continues k u ∧ u.pendingRounds < i.pendingRounds := by
  have hlt := cursor_lt_of_enabled hen
  cases hfirst : i.handledFirstTwoBytes with
  | true =>
    obtain ⟨u, hstep, hless⟩ := h.scanStep_runs hk hlt hfirst
    exact ⟨u, hstep, h.scanStep hk hlt hfirst hstep, hless⟩
  | false =>
    obtain ⟨u, hstep, hless⟩ := h.firstTwoBytes_runs hk hfirst
    exact ⟨u, hstep, h.firstTwoBytes hk hstep, hless⟩

/-! ### The scan loop -/

theorem scanRounds_of_not_enabled (hen : enabled hold i = false) (fuel : Nat) :
    scanRounds k hold fuel i = .next i := by
  cases fuel with
  | zero => rfl
  | succ fuel => exact scanRounds_succ_eq_next.2 (.inl ⟨hen, rfl⟩)

theorem scanRounds_succ_of_enabled (hen : enabled hold i = true)
    (hu : (if i.handledFirstTwoBytes then Machine.scanStep k i else Machine.firstTwoBytes i) = .next u) (fuel : Nat) :
    scanRounds k hold (fuel + 1) i = scanRounds k hold fuel u := by
  rw [Machine.scanRounds, if_pos hen, hu, andThen_next]

/-- The scan comes to a unit with no step to take, and with fuel for the rounds there are, it is the same whatever the
fuel (R237, R260). -/
theorem IUnit.Encoding.scanRounds_ends (hk : k.legal = true) (hold : Bool) (h : i.Encoding k) :
    ∃ j, enabled hold j = false ∧ i.Continues k j ∧
      ∀ fuel, i.pendingRounds ≤ fuel → Machine.scanRounds k hold fuel i = .next j := by
  induction hn : i.pendingRounds using Nat.strongRecOn generalizing i with
  | _ n ih =>
    subst hn
    cases hen : enabled hold i with
    | false => exact ⟨i, hen, ⟨h, rfl, rfl⟩, fun fuel _ => scanRounds_of_not_enabled hen fuel⟩
    | true =>
      obtain ⟨u, hu, hcont, hless⟩ := h.round_runs hk hen
      obtain ⟨j, hoff, hcont', hscan⟩ := ih _ hless hcont.encoding rfl
      refine ⟨j, hoff, hcont.trans hcont', fun fuel hfuel => ?_⟩
      obtain ⟨fuel, rfl⟩ := Nat.exists_eq_succ_of_ne_zero (Nat.ne_zero_of_lt (hless.trans_le hfuel))
      rw [scanRounds_succ_of_enabled hen hu]
      exact hscan fuel (Nat.le_of_lt_succ (hless.trans_le hfuel))

/-- The scan runs until no step is enabled (R237, R260). -/
theorem IUnit.Encoding.scanLoop_ends (hk : k.legal = true) (hold : Bool) (h : i.Encoding k) :
    ∃ j, Machine.scanLoop k hold i = .next j ∧ enabled hold j = false ∧ i.Continues k j := by
  obtain ⟨j, hoff, hcont, hscan⟩ := h.scanRounds_ends hk hold
  exact ⟨j, hscan _ (pendingRounds_le i), hoff, hcont⟩

/-- A round, and then the scan from there (R260). -/
theorem IUnit.Encoding.scanLoop_round (hk : k.legal = true) (h : i.Encoding k) (hen : enabled hold i = true) :
    ∃ u, (if i.handledFirstTwoBytes then Machine.scanStep k i else Machine.firstTwoBytes i) = .next u ∧
      Machine.scanLoop k hold i = Machine.scanLoop k hold u := by
  obtain ⟨u, hu, hcont, hless⟩ := h.round_runs hk hen
  obtain ⟨j, -, -, hscan⟩ := hcont.encoding.scanRounds_ends hk hold
  have hfuel : u.pendingRounds ≤ i.inBuf.size - i.cursor :=
    Nat.le_of_lt_succ (hless.trans_le (pendingRounds_le i))
  refine ⟨u, hu, ?_⟩
  calc Machine.scanLoop k hold i = Machine.scanRounds k hold (i.inBuf.size - i.cursor) u :=
        scanRounds_succ_of_enabled hen hu _
    _ = .next j := hscan _ hfuel
    _ = Machine.scanLoop k hold u := (hscan _ (pendingRounds_le u)).symm

end

/-- Settles O51: the scan ends wherever the unit was taking input, and the drain releases what R284 says. -/
theorem iPushResult : Obligations.IPushResult := by
  refine ⟨fun i => ⟨enabled_hold_iff i, enabled_noHold_iff i⟩,
    fun k hold i hk h => ⟨fun hoff => scanRounds_of_not_enabled hoff _, h.scanLoop_round hk⟩,
    fun s bytes hcfg hinv hstate => ?_⟩
  obtain ⟨-, -, hk⟩ := config_legal hcfg
  obtain ⟨henc, -⟩ := hinv.accumulating hstate
  obtain ⟨j, hscan, hoff, hcont⟩ := (henc.append bytes).scanLoop_ends hk s.cfg.lookaheadHold
  obtain ⟨b, hdrain, hcontents, -⟩ := drain_releases s.cfg.blockI hcont.encoding.outBufWf
  exact ⟨j, b, hscan, hoff, hcont.encoding, execIPush_accumulating henc.live hstate hscan hdrain, hcontents⟩

end Sys2Proof.Machine
end

section
/-! SUPPORT. `I.FINISH` (45_implode_emit.md rule R262): O52. -/

namespace Sys2Proof.Machine

/-- Settles O52: once the stream has ended, the scan stops only where every byte is scanned, and END has its encoding
there. -/
theorem iFinishResult : Obligations.IFinishResult := by
  intro s hcfg hinv hstate
  obtain ⟨-, -, hk⟩ := config_legal hcfg
  obtain ⟨henc, -⟩ := hinv.accumulating hstate
  obtain ⟨j, hscan, hoff, hcont⟩ := henc.ending.scanLoop_ends hk s.cfg.lookaheadHold
  have hdone : j.cursor = j.inBuf.size := cursor_of_enabled_false hcont.encoding hcont.ended hoff
  obtain ⟨u, hend, hw⟩ := emitEnd_writes hk hcont.encoding
  exact ⟨j, u, u.outBuf.clear, hscan, hdone, hend,
    execIFinish_accumulating henc.live hstate hscan hend hw.outBufWf, contents_clear u.outBuf⟩

end Sys2Proof.Machine
end

section
/-! SUPPORT. What an illegal header, an `I.RESET` with illegal operands and a reserved command word leave
(60_exceptions.md rules R302 to R304, R307 and R310, 30_encoding.md rule R117): O24, O50 and O13. -/

namespace Sys2Proof.Machine

/-! ### An illegal header -/

section
variable {s : State} {m d seed : Byte}

/-- Byte 0 is checked first, so nothing is asked of byte 1 (R302, R310). -/
theorem parseHeader_illegalMode (hstate : s.x.xstate = .awaitingHeader) (hsize : 4 ≤ s.x.inBuf.size)
    (hout : s.x.outBuf.wf = true) (hm : CompressionMode.ofByte m = none) :
    parseHeader m d seed s = .next (s.raisedX .invalidCompressionType) :=
  parseHeader_eq_next.2 ⟨⟨hstate, hsize⟩, .inl ⟨hm, raiseX_spec _ hout⟩⟩

/-- Byte 1 is reported where byte 0 passed (R303, R310). -/
theorem parseHeader_illegalDict {mode : CompressionMode} (hstate : s.x.xstate = .awaitingHeader)
    (hsize : 4 ≤ s.x.inBuf.size) (hout : s.x.outBuf.wf = true) (hm : CompressionMode.ofByte m = some mode)
    (hd : DictionarySize.ofByte d = none) : parseHeader m d seed s = .next (s.raisedX .invalidDictionarySize) :=
  parseHeader_eq_next.2 ⟨⟨hstate, hsize⟩, .inr ⟨mode, hm, .inl ⟨hd, raiseX_spec _ hout⟩⟩⟩

end

/-- Settles O24: the two checks of the header, in their order. -/
theorem headerErrors : Obligations.HeaderErrors := by
  refine fun s m d seed hstate hsize hout => ⟨fun h0 h1 => ?_, fun h01 h4 h5 h6 => ?_⟩
  · exact parseHeader_illegalMode hstate hsize hout (compressionMode_ofByte_eq_none h0 h1)
  · obtain ⟨mode, hm⟩ := compressionMode_ofByte_isSome h01
    exact parseHeader_illegalDict hstate hsize hout hm (dictionarySize_ofByte_eq_none h4 h5 h6)

/-! ### `I.RESET` with illegal operands -/

/-- The compressor after an `I.RESET` with illegal operands (R304). -/
def IUnit.rejected (code : ErrorCode) : IUnit :=
  { IUnit.blank with live := true, err := code, outBuf := Buffer.new.clear, istate := .error }

/-- The error of a unit that was just discarded hands out nothing (R304, R307). -/
theorem raiseI_discarded (s : State) (code : ErrorCode) :
    raiseI code { s with i := { IUnit.blank with live := true } } =
      .next (({ s with i := IUnit.rejected code } : State).respond ⟨.error, code, []⟩) :=
  raiseI_eq_next.2 ⟨_, readBytes_all buffer_new_wf, rfl⟩

section
variable {s : State} {m d : Byte}

/-- The mode is checked first, so nothing is asked of the size (R304, R310). -/
theorem exec_iReset_illegalMode (hk : s.cfg.tables.legal = true) (hm : CompressionMode.ofByte m = none) :
    exec (.iReset m d) s = .next (({ s with i := IUnit.rejected .invalidCompressionType } : State).respond
      ⟨.error, .invalidCompressionType, []⟩) := by
  refine withLegalTables_eq_next.2 ⟨hk, ?_⟩
  dsimp only
  rw [hm]
  exact raiseI_discarded s _

/-- The size is reported where the mode passed (R304, R310). -/
theorem exec_iReset_illegalDict {mode : CompressionMode} (hk : s.cfg.tables.legal = true)
    (hm : CompressionMode.ofByte m = some mode) (hd : DictionarySize.ofByte d = none) :
    exec (.iReset m d) s = .next (({ s with i := IUnit.rejected .invalidDictionarySize } : State).respond
      ⟨.error, .invalidDictionarySize, []⟩) := by
  refine withLegalTables_eq_next.2 ⟨hk, ?_⟩
  dsimp only
  rw [hm, hd]
  exact raiseI_discarded s _

end

section
variable {t : State}

/-- A compressor in Error answers a push with its code and takes nothing in (R263). -/
theorem execIPush_error (hl : t.i.live = true) (hx : t.i.istate = .error) (bytes : List Byte) :
    exec (.iPush bytes) t = .next (t.respond ⟨.error, t.i.err, []⟩) := by
  change execIPush bytes t = _
  rw [execIPush, if_neg (by rw [hl]; decide), hx]

/-- A compressor in Error answers the end of the stream with its code (R263). -/
theorem execIFinish_error (hl : t.i.live = true) (hx : t.i.istate = .error) :
    exec .iFinish t = .next (t.respond ⟨.error, t.i.err, []⟩) := by
  change execIFinish t = _
  rw [execIFinish, if_neg (by rw [hl]; decide), hx]

end

/-- Settles O50: either check leaves the unit rejected, and from there the commands of the compressor are those of a unit
in Error, until a legal `I.RESET` sets it up. -/
theorem iResetIllegal : Obligations.IResetIllegal := by
  intro s m d k hk hillegal
  have hreset : exec (.iReset m d) s =
      .next (({ s with i := IUnit.rejected k } : State).respond ⟨.error, k, []⟩) := by
    rcases hillegal with ⟨h0, h1, rfl⟩ | ⟨h01, h4, h5, h6, rfl⟩
    · exact exec_iReset_illegalMode hk (compressionMode_ofByte_eq_none h0 h1)
    · obtain ⟨mode, hm⟩ := compressionMode_ofByte_isSome h01
      exact exec_iReset_illegalDict hk hm (dictionarySize_ofByte_eq_none h4 h5 h6)
  refine ⟨IUnit.rejected k, hreset, rfl, rfl, rfl, contents_clear _, rfl, rfl, fun t ht => ?_⟩
  have hlive : t.i.live = true := by rw [ht]; rfl
  have herror : t.i.istate = .error := by rw [ht]; rfl
  have hcode : t.i.err = k := by rw [ht]; rfl
  refine ⟨fun bytes => ?_, ?_, fun hcfg mode dict => ?_⟩
  · rw [execIPush_error hlive herror, hcode]
  · rw [execIFinish_error hlive herror, hcode]
  · exact ⟨setupI t.cfg.tables mode dict, exec_iReset_legal (by rw [hcfg]; exact hk) mode dict, rfl⟩

/-! ### A reserved command word -/

/-- `cmd = 3` is no command, whatever the unit bit and the operand (R117). -/
theorem decodeCommand_reserved {c : HostCommand} (hc : c.word = 0b011 ∨ c.word = 0b111) :
    decodeCommand c = .error .reserved := by
  unfold decodeCommand
  rcases hc with hword | hword
  · rw [hword]; rfl
  · rw [hword]; rfl

/-- Settles O13: with no push running the step reads the transaction, and it is no command. -/
theorem reservedCommand : Obligations.ReservedCommand := fun _ _ _ hspace hhost hc =>
  step_of_commandError hspace hhost (decodeCommand_reserved hc)

end Sys2Proof.Machine
end

section
/-! SUPPORT. The reset values of the EXPLODE unit (10_state.md rules R47 and R49): O1 and O31. -/

namespace Sys2Proof.Machine

/-- Settles O1: the dense tables written out for the default constants are the generators' (R163). -/
theorem resetState : Obligations.ResetState :=
  ⟨rfl, rfl, rfl, rfl, rfl, rfl, rfl, rfl, rfl, lengthCodesTable_generated, distPosCodesTable_generated, rfl, rfl⟩

/-- `X.RESET` with legal tables puts the unit in R47's state, whatever it was before (R201). -/
theorem exec_xReset_legal {s : State} (hk : s.cfg.tables.legal = true) :
    exec .xReset s =
      .next (({ s with x := XUnit.reset s.cfg.tables } : State).respond ⟨.ready, .none, []⟩) :=
  withLegalTables_eq_next.2 ⟨hk, rfl⟩

/-- Settles O31: the unit after RESET is the same whatever it was, and its dense tables are the generators'. -/
theorem xResetResult : Obligations.XResetResult := fun s hk =>
  ⟨XUnit.reset s.cfg.tables, exec_xReset_legal hk, rfl, rfl, rfl, rfl, rfl, rfl, rfl, rfl, rfl,
    lengthCodesOf_eq s.cfg.tables, distPosCodesOf_eq s.cfg.tables, rfl, rfl⟩

end Sys2Proof.Machine
end

section
/-! SUPPORT. The bit reader and the decoder on any bits (30_encoding.md rules R116 and R170, 42_explode_decode.md rules R183
and R194): O8, O9 and O10. -/

namespace Sys2Proof

/-- Settles O8: any bits begin with one instruction, as far as there are bits. -/
theorem decodeTotal : Obligations.DecodeTotal := fun _ _ _ _ hk hsp ht hr => decode_ne_unfilledEntry hk hsp ht hr

/-- The header is the first three of the bytes waiting, however many there are past the fourth (R101, R204). -/
theorem decodeHeader_extend {r r' : BitReader} {i : Instr} (more : List Byte) (h : decodeHeader r = .instr i r') :
    decodeHeader (r.extend more) = .instr i (r'.extend more) := by
  obtain ⟨bitBuffer, extraBits, input⟩ := r
  unfold decodeHeader at h
  split at h
  · rename_i hinput
    obtain rfl : input = _ := hinput
    cases h
    rfl
  · cases h

/-- Settles O9: a token part by what each decoder does with more input, the header by its own; nothing of the host's is
read from a stream. -/
theorem decodeMoreInput : Obligations.DecodeMoreInput := by
  intro k t sp i r r' more hk h
  cases sp with
  | token mode => exact decode_extend hk rfl more h
  | distance n d mask => exact ⟨_, decodeDistancePart_extend more h, fun _ => rfl⟩
  | header => exact ⟨_, decodeHeader_extend more h, fun _ => rfl⟩
  | host => cases h

/-- Settles O10: a `wasteBits` that does not fail moves the reader on by its bits. -/
theorem wasteBits : Obligations.WasteBits := fun _ _ hr _ hn =>
  ⟨BitReader.wasteBits_eq_none_iff, fun _ h =>
    have hreads := BitReader.reads_of_wasteBits hr hn h
    ⟨hreads.wf, hreads.bits, hreads.avail⟩⟩

end Sys2Proof
end

section
/-! SUPPORT. What a drain keeps (46_streaming_adapter.md rules R283 and R284), and eviction (45_implode_emit.md rule R258):
O22 and O47. -/

namespace Sys2Proof

open Machine

/-- A drain that releases anything keeps at least one block and less than two (R283, R284). -/
theorem Machine.kept_of_drainCount {block size : Nat} (hblock : 1 ≤ block) (h : block < size) :
    block ≤ size - drainCount block size ∧ size - drainCount block size < 2 * block := by
  have hone : 1 ≤ size / block := (Nat.one_le_div_iff hblock).2 h.le
  have hdiv := Nat.div_add_mod' size block
  have hmod := Nat.mod_lt size hblock
  have hcount : drainCount block size + block = size / block * block := by
    rw [drainCount, if_pos h, Nat.sub_mul, Nat.one_mul, Nat.sub_add_cancel (Nat.le_mul_of_pos_left block hone)]
  omega

/-- Settles O22: what is released is a number of blocks, and what is kept is what R283 leaves. -/
theorem drain : Obligations.Drain := by
  refine fun block b hblock hb => ⟨fun h => drain_eq_next.2 (.inl ⟨h, rfl, rfl⟩), fun h => ?_⟩
  obtain ⟨b', hdrain, hcontents, -⟩ := drain_releases block hb
  obtain ⟨_, _, hdrain', -, hwf, -⟩ := drain_spec hb hblock
  cases hdrain.symm.trans hdrain'
  have hcount : drainCount block b.size = (b.size / block - 1) * block := if_pos h
  obtain ⟨hleast, hmost⟩ := kept_of_drainCount hblock h
  have hsize : b'.size = b.size - drainCount block b.size := by
    rw [← length_contents hwf, hcontents, List.length_drop, length_contents hb]
  rw [hcount] at hdrain hcontents
  refine ⟨b', _, hdrain, rfl, hcontents, ?_, hsize ▸ hleast, hsize ▸ hmost, hwf⟩
  rw [List.length_take, length_contents hb, ← hcount, Nat.min_eq_left (drainCount_le block b.size), hcount]
  exact Nat.dvd_mul_left ..

/-- Settles O47: what eviction drops is a soft delete, which moves no byte. -/
theorem evict : Obligations.Evict := fun _ hb _ =>
  ⟨evict_of_lt, fun h => ⟨_, if_pos h, contents_dropStart hb _, dropStart_heap ..⟩⟩

end Sys2Proof
end

section
/-! SUPPORT. A distance beyond the history (43_explode_engine.md rule R210, 60_exceptions.md rules R307 and R309): O29. -/

namespace Sys2Proof.Machine

/-- Settles O29: the distance check comes before the copy, and its error hands out what there is. -/
theorem distanceError : Obligations.DistanceError := by
  intro i p low s n hshape hstate hlength hout hbeyond
  rw [exec_distance hshape]
  exact executeDistance_eq_next.2 ⟨hstate, n, hlength, .inl ⟨hbeyond, raiseX_spec _ hout⟩⟩

end Sys2Proof.Machine
end

section
/-! SUPPORT. The states only a RESET leaves: Error and Complete of the EXPLODE unit (43_explode_engine.md rules R214 and R217),
Finalized of the IMPLODE unit (45_implode_emit.md rule R263): O34, O35 and O53. -/

namespace Sys2Proof.Machine

section
variable {s t : State} {i : Instr}

/-- Outside Decoding, with no header awaited, nothing of a stream is executed (R200, R205, R206). -/
theorem exec_ne_next_of_stopped (hstop : s.x.xstate = .complete ∨ s.x.xstate = .error)
    (hi : ∀ c, i.shape ≠ .command c) : exec i s ≠ .next t := by
  have hdecoding : s.x.xstate ≠ .decoding := by rcases hstop with h | h <;> rw [h] <;> decide
  have hawaiting : s.x.xstate ≠ .awaitingHeader := by rcases hstop with h | h <;> rw [h] <;> decide
  have htoken : ∀ n, executeToken n s ≠ .next t := fun n h => by
    rw [executeToken_outsideDecoding hdecoding] at h
    cases h
  rw [exec_eq_execShape, execShape]
  cases hs : i.shape with
  | command c => exact absurd hs (hi c)
  | header m d seed =>
    dsimp only
    rw [parseHeader_refused (.inl hawaiting)]
    exact fun h => nomatch h
  | distance p low =>
    dsimp only
    rw [executeDistance_outsideDecoding hdecoding]
    exact fun h => nomatch h
  | _ => exact htoken _

/-- The instructions of the IMPLODE unit are its three commands (R117). -/
theorem forImplode_iff :
    forImplode i = true ↔ (∃ m d, i = .iReset m d) ∨ (∃ bytes, i = .iPush bytes) ∨ i = .iFinish := by
  refine ⟨fun h => ?_, ?_⟩
  · cases hs : i.shape with
    | command c =>
      refine (command_cases hs).resolve_left fun hexplode => ?_
      have hword : c.word.getLsbD 2 = false := by
        rcases hexplode with rfl | ⟨bytes, rfl⟩ | rfl <;> cases hs <;> dsimp only <;> decide
      exact absurd ((forImplode_command hs hword).symm.trans h) Bool.false_ne_true
    | _ => exact absurd ((forImplode_eq_false (by simp [hs])).symm.trans h) Bool.false_ne_true
  · rintro (⟨m, d, rfl⟩ | ⟨bytes, rfl⟩ | rfl)
    · exact forImplode_command (c := ⟨4, [m, d]⟩) rfl (by dsimp only; decide)
    · exact forImplode_command (c := ⟨5, bytes⟩) rfl (by dsimp only; decide)
    · rfl

/-- A command of the IMPLODE unit leaves the EXPLODE unit (R21). -/
theorem x_of_exec_implode (hi : forImplode i = true) (h : exec i s = .next t) : t.x = s.x := by
  obtain ⟨-, -, -, -, hx⟩ := unitFrame i s t h
  exact hx hi

/-- Every other instruction leaves the IMPLODE unit (R21). -/
theorem i_of_exec_explode (hi : forImplode i = false) (h : exec i s = .next t) : t.i = s.i := by
  obtain ⟨-, -, -, hunit, -⟩ := unitFrame i s t h
  exact hunit hi

/-- In Complete and in Error nothing but `X.FINISH` and `X.RESET` changes the unit, where a push leaves it (R214, R217). -/
theorem x_of_exec_stopped (hstop : s.x.xstate = .complete ∨ s.x.xstate = .error)
    (hpush : ∀ bytes u, exec (.xPush bytes) s = .next u → u.x = s.x) (hreset : i ≠ .xReset) (hfinish : i ≠ .xFinish)
    (h : exec i s = .next t) : t.x = s.x := by
  cases hs : i.shape with
  | command c =>
    rcases command_cases hs with (rfl | ⟨bytes, rfl⟩ | rfl) | himplode
    · exact absurd rfl hreset
    · exact hpush bytes t h
    · exact absurd rfl hfinish
    · exact x_of_exec_implode (forImplode_iff.2 himplode) h
  | _ => exact absurd h (exec_ne_next_of_stopped hstop (by simp [hs]))

/-- What answers without touching the units leaves them. -/
theorem units_of_respond {a : Answer State} {r : Response} (ha : a = .next (s.respond r)) (h : a = .next t) :
    t.x = s.x ∧ t.i = s.i := by
  cases ha.symm.trans h
  exact ⟨rfl, rfl⟩

theorem exec_xReset_awaitingHeader (hk : s.cfg.tables.legal = true) :
    ∃ t, exec .xReset s = .next t ∧ t.x.xstate = .awaitingHeader :=
  ⟨_, exec_xReset_legal hk, rfl⟩

end

/-- Settles O34: both commands answer with the code there is, and nothing of a stream is executed in Error. -/
theorem xErrorSticky : Obligations.XErrorSticky := by
  intro s hl hx
  have hpush : ∀ bytes, exec (.xPush bytes) s = .next (s.respond ⟨.error, s.x.err, []⟩) := fun _ => execXPush_error hl hx
  have hfinish := execXFinish_error hl hx
  refine ⟨hpush, hfinish, fun i t hreset h => ?_, exec_xReset_awaitingHeader⟩
  by_cases hi : i = .xFinish
  · subst hi
    exact (units_of_respond hfinish h).1
  · exact x_of_exec_stopped (.inr hx) (fun bytes _ hu => (units_of_respond (hpush bytes) hu).1) hreset hi h

/-- `X.FINISH` in Complete keeps the state (R215). -/
theorem xstate_of_execXFinish_complete {s t : State} (hl : s.x.live = true) (hx : s.x.xstate = .complete)
    (h : exec .xFinish s = .next t) : t.x.xstate = .complete := by
  change execXFinish s = _ at h
  rw [execXFinish, if_neg (by rw [hl]; decide), if_neg (by rw [space_none (.inr (.inl hx))]; decide), hx] at h
  obtain ⟨out, -, ht⟩ := andThen_eq_next.1 h
  cases ht
  exact hx

/-- Settles O35: a push in Complete only answers, and nothing of a stream is executed there. -/
theorem xCompleteIgnores : Obligations.XCompleteIgnores := by
  intro s hl hx
  have hpush : ∀ bytes, exec (.xPush bytes) s = .next (s.respond ⟨.done, .none, []⟩) := fun _ => execXPush_complete hl hx
  exact ⟨hpush,
    fun _ _ => x_of_exec_stopped (.inl hx) fun bytes _ hu => (units_of_respond (hpush bytes) hu).1,
    fun _ => xstate_of_execXFinish_complete hl hx, exec_xReset_awaitingHeader⟩

/-- A compressor whose stream is complete takes nothing in (R263). -/
theorem execIPush_finalized {s : State} (hl : s.i.live = true) (hx : s.i.istate = .finalized) (bytes : List Byte) :
    exec (.iPush bytes) s = .next (s.respond ⟨.done, .none, []⟩) := by
  change execIPush bytes s = _
  rw [execIPush, if_neg (by rw [hl]; decide), hx]

/-- The end of a stream that has ended (R263). -/
theorem execIFinish_finalized {s : State} (hl : s.i.live = true) (hx : s.i.istate = .finalized) :
    exec .iFinish s = .next (s.respond ⟨.done, .none, []⟩) := by
  change execIFinish s = _
  rw [execIFinish, if_neg (by rw [hl]; decide), hx]

/-- Settles O53: the compressor's two other commands only answer, and every other instruction is the EXPLODE unit's. -/
theorem iFinalized : Obligations.IFinalized := by
  intro s hl hx
  have hpush := execIPush_finalized hl hx
  have hfinish := execIFinish_finalized hl hx
  refine ⟨hpush, hfinish, fun i t hreset h => ?_, fun hk mode dict => ⟨_, exec_iReset_legal hk mode dict, rfl⟩⟩
  cases himplode : forImplode i with
  | false => exact i_of_exec_explode himplode h
  | true =>
    rcases forImplode_iff.1 himplode with ⟨m, d, rfl⟩ | ⟨bytes, rfl⟩ | rfl
    · exact absurd rfl (hreset m d)
    · exact (units_of_respond (hpush bytes) h).2
    · exact (units_of_respond hfinish h).2

end Sys2Proof.Machine
end

section
/-! SUPPORT. The bit packer keeps the saved indices of `outBuf` (45_implode_emit.md rule R252): O41. -/

namespace Sys2Proof

open Machine

/-- `setByte` moves no index and saves none (R151). -/
theorem Machine.setByte_saved {b b' : Buffer} {index : Int} {v : Byte} (h : b.setByte index v = .next b') :
    b'.saved = b.saved := by
  simp only [Buffer.setByte] at h
  split at h
  · cases h
    rfl
  · split at h
    · cases h
      rfl
    · cases h

theorem Machine.outputByte_saved {i j : IUnit} {n code : Nat} (h : outputByte n code i = .next j) :
    j.outBuf.saved = i.outBuf.saved := by
  obtain ⟨-, last, b, -, hset, rfl⟩ := outputByte_eq_next.1 h
  rw [← setByte_saved hset]
  dsimp only
  split
  · exact append_saved ..
  · split
    · exact append_saved ..
    · rfl

/-- Only a save sets the saved indices (R152). -/
theorem Machine.outputBits_saved {i j : IUnit} {n code : Nat} (h : outputBits n code i = .next j) :
    j.outBuf.saved = i.outBuf.saved := by
  rcases outputBits_eq_next.1 h with ⟨-, u, hu, hj⟩ | ⟨-, hj⟩
  · exact (outputByte_saved hj).trans (outputByte_saved hu)
  · exact outputByte_saved hj

/-- Settles O41: the packer writes its code's bits, and saves no index. -/
theorem outputBits : Obligations.OutputBits := by
  intro i n code hb hp hn hn16 hcode
  obtain ⟨j, hj, hw⟩ := outputBits_writes hb hp hn hn16 hcode
  exact ⟨j, hj, hw.eq, hw.outBufWf, hw.packed, outputBits_saved hj, hw.position, hw.bits⟩

end Sys2Proof
end

section
/-! SUPPORT. The repetition search in full (44_implode_match.md rule R238): the place it finds is the earliest, and the match
ends where the bytes differ or may go no further. O46. -/

namespace Sys2Proof.Machine

/-- The search passes no place of the needle; where it finds none, there is none (R238). -/
theorem not_needle_before {n0 n1 : Byte} {at' count : Nat} {bytes : List Byte} {j : Nat}
    (hj : at' + j < (findNeedle n0 n1 at' count bytes).getD (at' + count)) :
    ¬(bytes[j]? = some n0 ∧ bytes[j + 1]? = some n1) := by
  induction count generalizing at' bytes j with
  | zero =>
    rw [findNeedle, Option.getD_none] at hj
    · omega
    · exact fun _ _ _ _ h => nomatch h
  | succ count ih =>
    match bytes with
    | [] => exact fun h => nomatch h.1
    | [_] => exact fun h => by simp at h
    | b0 :: b1 :: rest =>
      rw [findNeedle] at hj
      split at hj
      · rw [Option.getD_some] at hj
        omega
      · rename_i hb
        cases j with
        | zero => exact fun ⟨h0, h1⟩ => hb ⟨Option.some.inj h0, Option.some.inj h1⟩
        | succ j =>
          rw [List.getElem?_cons_succ, List.getElem?_cons_succ]
          refine ih (at' := at' + 1) ?_
          rwa [Nat.add_right_comm at' 1 j, Nat.add_right_comm at' 1 count]

/-- A match that ends before its cap ends at two bytes that differ (R238). -/
theorem matchLength_stops {cap : Nat} {as bs : List Byte} (hcap : cap ≤ bs.length) (h : matchLength cap as bs < cap) :
    as[matchLength cap as bs]? ≠ bs[matchLength cap as bs]? := by
  induction cap generalizing as bs with
  | zero => exact absurd h (Nat.not_lt_zero _)
  | succ cap ih =>
    match as, bs with
    | _, [] => exact absurd hcap (Nat.not_succ_le_zero cap)
    | [], b :: bs => exact fun he => nomatch he
    | a :: as, b :: bs =>
      rw [matchLength] at h ⊢
      split at h
      · rename_i hab
        rw [if_pos hab, List.getElem?_cons_succ, List.getElem?_cons_succ]
        exact ih (Nat.le_of_succ_le_succ hcap) (Nat.lt_of_succ_lt_succ h)
      · rename_i hab
        rw [if_neg hab]
        exact fun he => hab (Option.some.inj he)

/-- Two bytes that agree are counted (R238). -/
theorem two_le_matchLength {cap : Nat} {a b : Byte} {as bs : List Byte} (hcap : 2 ≤ cap) :
    2 ≤ matchLength cap (a :: b :: as) (a :: b :: bs) := by
  obtain ⟨cap, rfl⟩ := Nat.exists_eq_add_of_le' hcap
  rw [matchLength, if_pos rfl, matchLength, if_pos rfl]
  exact Nat.le_add_left 2 _

/-- The two bytes at a place, from there on. -/
theorem drop_eq_of_getElem? {bytes : List Byte} {m : Nat} {a b : Byte} (ha : bytes[m]? = some a)
    (hb : bytes[m + 1]? = some b) : bytes.drop m = a :: b :: bytes.drop (m + 2) := by
  obtain ⟨h1, rfl⟩ := List.getElem?_eq_some_iff.1 ha
  obtain ⟨h2, rfl⟩ := List.getElem?_eq_some_iff.1 hb
  rw [List.drop_eq_getElem_cons h1, List.drop_eq_getElem_cons h2]

section
variable {bytes : List Byte} {cursor : Nat} {n0 n1 : Byte}

/-- The search where a needle and a history are there (R238). -/
theorem findRepetitions_of_needle (h0 : bytes[cursor]? = some n0) (h1 : bytes[cursor + 1]? = some n1)
    (h2 : 2 ≤ cursor) : findRepetitions bytes cursor =
      (findNeedle n0 n1 0 (cursor - 1) bytes).elim (0, 0) fun m =>
        (matchLength (min 0x204 (bytes.length - cursor)) (bytes.drop m) (bytes.drop cursor), cursor - m - 1) := by
  have hd := drop_eq_of_getElem? h0 h1
  have hlen : (bytes.drop (cursor + 2)).length + 2 = bytes.length - cursor := by
    rw [← List.length_drop, hd]
    rfl
  unfold findRepetitions
  rw [hd]
  dsimp only
  rw [if_neg (Nat.not_lt.2 h2), hlen]
  cases findNeedle n0 n1 0 (cursor - 1) bytes <;> rfl

/-- There is no match without a needle or without a history of two bytes (R238). -/
theorem findRepetitions_of_short (h : bytes.length - cursor < 2 ∨ cursor < 2) : findRepetitions bytes cursor = (0, 0) := by
  unfold findRepetitions
  split
  · rename_i hd
    have hlen := congrArg List.length hd
    rw [List.length_drop, List.length_cons, List.length_cons] at hlen
    exact if_pos (h.resolve_left (by omega))
  · rfl

end
end Sys2Proof.Machine

namespace Sys2Proof

open Machine

/-- Settles O46: the search finds the first place of the needle, and the two sequences agree as far as they are counted and
no further. -/
theorem findRepetitions : Obligations.FindRepetitions := by
  intro bytes cursor _
  dsimp only
  by_cases hshort : bytes.length - cursor < 2 ∨ cursor < 2
  · exact .inl ⟨findRepetitions_of_short hshort, hshort.imp (fun h => by omega) .inl⟩
  obtain ⟨n0, h0⟩ : ∃ b, bytes[cursor]? = some b := ⟨_, List.getElem?_eq_getElem (by omega)⟩
  obtain ⟨n1, h1⟩ : ∃ b, bytes[cursor + 1]? = some b := ⟨_, List.getElem?_eq_getElem (by omega)⟩
  rw [findRepetitions_of_needle h0 h1 (by omega), h0, h1]
  have hbefore := fun m => not_needle_before (n0 := n0) (n1 := n1) (at' := 0) (count := cursor - 1) (bytes := bytes) (j := m)
  cases hf : findNeedle n0 n1 0 (cursor - 1) bytes with
  | none =>
    refine .inl ⟨rfl, .inr (.inr fun m hm => hbefore m ?_)⟩
    rw [hf, Option.getD_none]
    omega
  | some m =>
    obtain ⟨-, hm, hm0, hm1⟩ := findNeedle_spec hf
    rw [Nat.sub_zero] at hm0 hm1
    obtain ⟨hmost, hsame⟩ := matchLength_spec (min 0x204 (bytes.length - cursor)) (bytes.drop m) (bytes.drop cursor)
    refine .inr ⟨m, _, rfl, by omega, ⟨hm0, hm1⟩, fun m' hm' => hbefore m' ?_, ?_, hmost, fun j hj => ?_, fun hlt => ?_⟩
    · rw [hf, Option.getD_some]
      omega
    · rw [drop_eq_of_getElem? hm0 hm1, drop_eq_of_getElem? h0 h1]
      exact two_le_matchLength (by omega)
    · obtain ⟨x, hx, hy⟩ := hsame j hj
      rw [List.getElem?_drop] at hx hy
      rw [hx, hy]
    · have hstop := matchLength_stops (by rw [List.length_drop]; omega) hlt
      rwa [List.getElem?_drop, List.getElem?_drop] at hstop

end Sys2Proof
end

section
/-! SUPPORT. The tokens of a byte sequence (45_implode_emit.md rule R264), read off one by one, and how they depend on bytes to
come (44_implode_match.md rules R237 and R241). -/

namespace Sys2Proof.Machine

/-! ### Bytes to come -/

theorem findNeedle_append {n0 n1 : Byte} {at' count : Nat} {bytes : List Byte} (more : List Byte)
    (h : count < bytes.length) : findNeedle n0 n1 at' count (bytes ++ more) = findNeedle n0 n1 at' count bytes := by
  induction count generalizing at' bytes with
  | zero => rw [findNeedle, findNeedle] <;> exact fun _ _ _ _ h => nomatch h
  | succ count ih =>
    match bytes with
    | [] => exact absurd h (Nat.not_lt_zero _)
    | [_] => exact absurd h (by simp)
    | b0 :: b1 :: rest =>
      have hrest := ih (at' := at' + 1) (bytes := b1 :: rest) (Nat.lt_of_succ_lt_succ h)
      rw [List.cons_append] at hrest
      rw [List.cons_append, List.cons_append, findNeedle, findNeedle, hrest]

theorem matchLength_append {cap : Nat} {as bs : List Byte} (more more' : List Byte) (has : cap ≤ as.length)
    (hbs : cap ≤ bs.length) : matchLength cap (as ++ more) (bs ++ more') = matchLength cap as bs := by
  induction cap generalizing as bs with
  | zero => rw [matchLength, matchLength] <;> exact fun _ _ _ _ _ h => nomatch h
  | succ cap ih =>
    match as, bs with
    | [], _ => exact absurd has (Nat.not_succ_le_zero cap)
    | _ :: _, [] => exact absurd hbs (Nat.not_succ_le_zero cap)
    | a :: as, b :: bs =>
      rw [List.cons_append, List.cons_append, matchLength, matchLength,
        ih (Nat.le_of_succ_le_succ has) (Nat.le_of_succ_le_succ hbs)]

/-- With as many bytes there as a match can have, the search does not depend on those that follow (R237, R241). -/
theorem findRepetitions_append {bytes : List Byte} {cursor : Nat} (more : List Byte)
    (h : 0x204 ≤ bytes.length - cursor) : findRepetitions (bytes ++ more) cursor = findRepetitions bytes cursor := by
  rcases Nat.lt_or_ge cursor 2 with hshort | h2
  · rw [findRepetitions_of_short (.inr hshort), findRepetitions_of_short (.inr hshort)]
  obtain ⟨n0, h0⟩ : ∃ b, bytes[cursor]? = some b := ⟨_, List.getElem?_eq_getElem (by omega)⟩
  obtain ⟨n1, h1⟩ : ∃ b, bytes[cursor + 1]? = some b := ⟨_, List.getElem?_eq_getElem (by omega)⟩
  have hcap : min 0x204 ((bytes ++ more).length - cursor) = 0x204 := by rw [List.length_append]; omega
  rw [findRepetitions_of_needle h0 h1 h2,
    findRepetitions_of_needle ((List.getElem?_append_left (by omega)).trans h0)
      ((List.getElem?_append_left (by omega)).trans h1) h2,
    findNeedle_append more (by omega), hcap, Nat.min_eq_left h]
  cases hf : findNeedle n0 n1 0 (cursor - 1) bytes with
  | none => rfl
  | some m =>
    obtain ⟨-, hm, -⟩ := findNeedle_spec hf
    rw [Option.elim_some, Option.elim_some, List.drop_append_of_le_length (by omega), List.drop_append_of_le_length (by omega),
      matchLength_append more more (by rw [List.length_drop]; omega) (by rw [List.length_drop]; exact h)]

theorem tokenAt_append {bytes : List Byte} {cursor : Nat} {b : Byte} (more : List Byte)
    (h : 0x204 ≤ bytes.length - cursor) : tokenAt (bytes ++ more) cursor b = tokenAt bytes cursor b := by
  rw [tokenAt, tokenAt, findRepetitions_append more h]

/-- The first two bytes are literals: no history before them can hold a needle (R236, R238). -/
theorem tokenAt_of_lt {cursor : Nat} (h : cursor < 2) (bytes : List Byte) (b : Byte) :
    tokenAt bytes cursor b = .literal b := by
  rw [tokenAt, findRepetitions_of_short (.inr h)]
  rfl

/-! ### The tokens, one by one -/

section
variable {window cursor : Nat} {bytes : List Byte}

/-- `toks(B)` from a cursor on (R264). -/
def tokensFrom (window : Nat) (bytes : List Byte) (cursor : Nat) : List Token :=
  tokensOf window (bytes.length - cursor) bytes cursor

theorem tokensOf_of_length_le (h : bytes.length ≤ cursor) (fuel : Nat) : tokensOf window fuel bytes cursor = [] := by
  cases fuel with
  | zero => rfl
  | succ fuel => rw [tokensOf, List.getElem?_eq_none h]

/-- Rounds for all the bytes there are do as well as any more (R264). -/
theorem tokensOf_congr {fuel fuel' : Nat} (h : bytes.length - cursor ≤ fuel) (h' : bytes.length - cursor ≤ fuel') :
    tokensOf window fuel bytes cursor = tokensOf window fuel' bytes cursor := by
  induction fuel generalizing fuel' bytes cursor with
  | zero => rw [tokensOf_of_length_le (by omega), tokensOf_of_length_le (by omega)]
  | succ fuel ih =>
    rcases Nat.lt_or_ge cursor bytes.length with hlt | hge
    · obtain ⟨fuel', rfl⟩ := Nat.exists_eq_succ_of_ne_zero (show fuel' ≠ 0 by omega)
      rw [tokensOf, tokensOf, List.getElem?_eq_getElem hlt]
      have hpos := tokenAt_size_pos bytes cursor bytes[cursor]
      dsimp only
      congr 1
      split
      · exact ih (by rw [List.length_drop]; omega) (by rw [List.length_drop]; omega)
      · exact ih (by omega) (by omega)
    · rw [tokensOf_of_length_le hge, tokensOf_of_length_le hge]

theorem tokensFrom_of_length_le (h : bytes.length ≤ cursor) : tokensFrom window bytes cursor = [] :=
  tokensOf_of_length_le h _

/-- The token at the cursor, and those after it, with `W` bytes dropped where the cursor has reached `W` (R240, R258). -/
theorem tokensFrom_of_getElem? {b : Byte} (hb : bytes[cursor]? = some b) :
    tokensFrom window bytes cursor = tokenAt bytes cursor b ::
      if window ≤ cursor + (tokenAt bytes cursor b).size
      then tokensFrom window (bytes.drop window) (cursor + (tokenAt bytes cursor b).size - window)
      else tokensFrom window bytes (cursor + (tokenAt bytes cursor b).size) := by
  obtain ⟨hlt, -⟩ := List.getElem?_eq_some_iff.1 hb
  have hpos := tokenAt_size_pos bytes cursor b
  rw [tokensFrom, show bytes.length - cursor = bytes.length - cursor - 1 + 1 by omega, tokensOf, hb]
  dsimp only
  congr 1
  split
  · exact tokensOf_congr (by rw [List.length_drop]; omega) (Nat.le_refl _)
  · exact tokensOf_congr (by omega) (Nat.le_refl _)

end

/-- Eviction leaves the tokens that are still to come as they are (R258). -/
theorem tokensFrom_evict {i : IUnit} (hb : i.inBuf.wf = true) (hc : i.cursor ≤ i.inBuf.size) (more : List Byte) :
    tokensFrom i.window.toNat ((evict i).inBuf.contents ++ more) (evict i).cursor =
      if i.window.toNat ≤ i.cursor
      then tokensFrom i.window.toNat ((i.inBuf.contents ++ more).drop i.window.toNat) (i.cursor - i.window.toNat)
      else tokensFrom i.window.toNat (i.inBuf.contents ++ more) i.cursor := by
  obtain ⟨hstay, hdrop⟩ := Sys2Proof.evict i hb hc
  split
  · rename_i hle
    obtain ⟨b, hev, hcontents, -⟩ := hdrop hle
    rw [hev, List.drop_append_of_le_length (by rw [length_contents hb]; omega), ← hcontents]
  · rename_i hlt
    rw [hstay (Nat.not_le.1 hlt)]

end Sys2Proof.Machine
end

section
/-! SUPPORT. With the lookahead hold the scan emits the tokens of the summary (44_implode_match.md rule R241, 45_implode_emit.md
rule R264), and a session hands out their packed bits: O59. -/

namespace Sys2Proof.Machine

/-! ### The scan follows the summary -/

/-- The unit has been pushed the bytes `pushed` and has written tokens of their summary so far: whatever bytes are still to
come, the tokens of them all are those written and those the scan will meet (R241, R264). -/
structure IUnit.Follows (k : CodeTables) (mode : CompressionMode) (dict : DictionarySize) (sent pushed : List Byte)
    (i : IUnit) : Prop where
  modeIs : i.mode = mode
  dictIs : i.dictBits = dict
  made : ∃ tokens, i.Holds sent (streamCode k mode dict tokens) ∧
    ∀ more, (i.streamEnded = true → more = []) →
      tokensFrom dict.window.toNat (pushed ++ more) 0 =
        tokens ++ tokensFrom dict.window.toNat (i.inBuf.contents ++ more) i.cursor

section
variable {k : CodeTables} {mode : CompressionMode} {dict : DictionarySize} {sent pushed bytes : List Byte} {i u v : IUnit}

theorem follows_setupI (k : CodeTables) (mode : CompressionMode) (dict : DictionarySize) :
    (setupI k mode dict).Follows k mode dict [] [] where
  modeIs := rfl
  dictIs := rfl
  made := by
    refine ⟨[], ⟨?_, rfl⟩, fun _ _ => rfl⟩
    rw [List.nil_append, setupI_outBuf]
    rfl

/-- More bytes to scan (R260). -/
theorem IUnit.Follows.append (h : i.Follows k mode dict sent pushed) (hb : i.inBuf.wf = true)
    (hopen : i.streamEnded = false) (bytes : List Byte) :
    ({ i with inBuf := i.inBuf.append bytes } : IUnit).Follows k mode dict sent (pushed ++ bytes) := by
  obtain ⟨tokens, hhold, hrest⟩ := h.made
  refine ⟨h.modeIs, h.dictIs, tokens, ⟨hhold.bits, hhold.position⟩, fun more _ => ?_⟩
  rw [contents_append hb, List.append_assoc, List.append_assoc]
  exact hrest _ fun hended => absurd (hopen.symm.trans hended) Bool.false_ne_true

/-- No more bytes (R262). -/
theorem IUnit.Follows.ending (h : i.Follows k mode dict sent pushed) (hopen : i.streamEnded = false) :
    ({ i with streamEnded := true } : IUnit).Follows k mode dict sent pushed := by
  obtain ⟨tokens, hhold, hrest⟩ := h.made
  exact ⟨h.modeIs, h.dictIs, tokens, ⟨hhold.bits, hhold.position⟩, fun more _ =>
    hrest more fun hended => absurd (hopen.symm.trans hended) Bool.false_ne_true⟩

theorem IUnit.Follows.withFlag (h : i.Follows k mode dict sent pushed) :
    ({ i with handledFirstTwoBytes := true } : IUnit).Follows k mode dict sent pushed := by
  obtain ⟨tokens, hhold, hrest⟩ := h.made
  exact ⟨h.modeIs, h.dictIs, tokens, ⟨hhold.bits, hhold.position⟩, hrest⟩

/-- A drain hands out bytes from the front, and not the one that is being filled (R284, R39). -/
theorem IUnit.Follows.drained (h : i.Follows k mode dict sent pushed) {b : Buffer} {out : List Byte}
    (hi : i.outBuf.wf = true) (hb : b.wf = true) (hc : out ++ b.contents = i.outBuf.contents) (h1 : 1 ≤ b.size) :
    ({ i with outBuf := b, istate := .accumulating } : IUnit).Follows k mode dict (sent ++ out) pushed := by
  obtain ⟨tokens, hhold, hrest⟩ := h.made
  exact ⟨h.modeIs, h.dictIs, tokens, hhold.drained hi hb hc h1, hrest⟩

@[simp] theorem evict_mode (i : IUnit) : (Machine.evict i).mode = i.mode := by
  unfold Machine.evict
  split <;> rfl

@[simp] theorem evict_dictBits (i : IUnit) : (Machine.evict i).dictBits = i.dictBits := by
  unfold Machine.evict
  split <;> rfl

@[simp] theorem evict_streamEnded (i : IUnit) : (Machine.evict i).streamEnded = i.streamEnded := by
  unfold Machine.evict
  split <;> rfl

/-- Eviction does not touch what was written (R258). -/
theorem IUnit.Holds.evict {code : Code} (h : i.Holds sent code) : (evict i).Holds sent code := by
  unfold Machine.evict
  split
  · exact ⟨h.bits, h.position⟩
  · exact h

/-- The token at the cursor was written and passed, where no byte to come can make it another (R237, R240, R241). -/
theorem IUnit.Follows.advance (h : i.Follows k mode dict sent pushed) (henc : i.Encoding k) {b : Byte} {token : Token}
    (hb : i.inBuf.contents[i.cursor]? = some b)
    (htoken : ∀ more, (i.streamEnded = true → more = []) → tokenAt (i.inBuf.contents ++ more) i.cursor b = token)
    (hsize : i.cursor + token.size ≤ i.inBuf.size) (hw : i.Writes (token.code k mode dict) v) :
    (Machine.evict { v with cursor := i.cursor + token.size }).Follows k mode dict sent pushed := by
  obtain ⟨tokens, hhold, hrest⟩ := h.made
  obtain ⟨hlt, -⟩ := List.getElem?_eq_some_iff.1 hb
  have hwindow : i.window.toNat = dict.window.toNat := by rw [henc.geometry.2, h.dictIs]
  have hheld := hhold.writes hw
  obtain ⟨o, n, rfl⟩ : ∃ o n, v = { i with outBuf := o, outBits := n } := ⟨_, _, hw.eq⟩
  refine ⟨(evict_mode _).trans h.modeIs, (evict_dictBits _).trans h.dictIs, tokens ++ [token], ?_, fun more hmore => ?_⟩
  · rw [streamCode, tokensCode_snoc, ← Code.followedBy_assoc]
    exact IUnit.Holds.evict ⟨hheld.bits, hheld.position⟩
  · rw [evict_streamEnded] at hmore
    have hevict := tokensFrom_evict
      (i := { i with outBuf := o, outBits := n, cursor := i.cursor + token.size }) henc.inBufWf hsize more
    dsimp only at hevict
    rw [hwindow] at hevict
    rw [hrest more hmore, tokensFrom_of_getElem? ((List.getElem?_append_left hlt).trans hb), htoken more hmore, hevict,
      List.append_assoc]
    rfl

/-- What a scan step emits and passes is the token at the cursor (R240, R264). -/
theorem IUnit.Encoding.scanStep_token (hk : k.legal = true) (h : i.Encoding k) {b : Byte}
    (hb : i.inBuf.contents[i.cursor]? = some b) :
    ∃ v, i.Writes ((tokenAt i.inBuf.contents i.cursor b).code k i.mode i.dictBits) v ∧
      i.cursor + (tokenAt i.inBuf.contents i.cursor b).size ≤ i.inBuf.size ∧
      Machine.scanStep k i = .next
        (Machine.evict { v with cursor := i.cursor + (tokenAt i.inBuf.contents i.cursor b).size }) := by
  have hlen := length_contents h.inBufWf
  rcases hm : findRepetitions i.inBuf.contents i.cursor with ⟨size, d⟩
  unfold tokenAt
  rw [hm]
  dsimp only
  cases hf : flushable size d with
  | true =>
    obtain ⟨m, _, heq, -, h2, hmost, hin, -⟩ := findRepetitions_spec (by rw [hm]; exact hf)
    cases hm.symm.trans heq
    obtain ⟨v, hv, hw⟩ := emitMatch_writes hk h h2 hmost hf (by have := h.cursor.2; omega)
    exact ⟨v, hw, hlen ▸ hin, scanStep_eq_next.2 ⟨_, .inl (by rw [hm]; exact ⟨hf, hv⟩), rfl⟩⟩
  | false =>
    obtain ⟨v, hv, hw⟩ := emitLiteral_writes hk h i.dictBits b
    have hcur : v.cursor = i.cursor := by rw [hw.eq]
    refine ⟨v, hw, hlen ▸ (List.getElem?_eq_some_iff.1 hb).1, scanStep_eq_next.2
      ⟨_, .inr ⟨by rw [hm]; exact hf, b, v, readByte_eq h.inBufWf hb, hv, rfl⟩, ?_⟩⟩
    rw [hcur]
    rfl

/-- A scan step with the lookahead hold (R237, R240). -/
theorem IUnit.Follows.scanStep (hk : k.legal = true) (h : i.Follows k mode dict sent pushed) (henc : i.Encoding k)
    (hen : enabled true i = true) (hu : Machine.scanStep k i = .next u) : u.Follows k mode dict sent pushed := by
  have hlen := length_contents henc.inBufWf
  obtain ⟨hlt, hhold⟩ := (enabled_hold_iff i).1 hen
  obtain ⟨b, hb⟩ : ∃ b, i.inBuf.contents[i.cursor]? = some b := ⟨_, List.getElem?_eq_getElem (hlen ▸ hlt)⟩
  obtain ⟨v, hw, hsize, hstep⟩ := henc.scanStep_token hk hb
  cases hu.symm.trans hstep
  rw [h.modeIs, h.dictIs] at hw
  refine h.advance henc hb (fun more hmore => ?_) hsize hw
  rcases hhold with hended | hfar
  · rw [hmore hended, List.append_nil]
  · exact tokenAt_append more (hlen ▸ hfar)

/-- A literal that was emitted has its encoding written (R254). -/
theorem IUnit.Encoding.writes_of_emitLiteral (hk : k.legal = true) (henc : i.Encoding k) (hmode : i.mode = mode)
    (dict : DictionarySize) {b : Byte} (hv : emitLiteral b i = .next v) :
    i.Writes ((Token.literal b).code k mode dict) v := by
  obtain ⟨_, hv', hw⟩ := emitLiteral_writes hk henc dict b
  cases hv.symm.trans hv'
  rwa [hmode] at hw

/-- One of the first two bytes, written as a literal and passed: no eviction is due yet (R236). -/
theorem IUnit.Follows.firstLiteral (h : i.Follows k mode dict sent pushed) (henc : i.Encoding k)
    (hflag : i.handledFirstTwoBytes = true) (hcursor : i.cursor < 2) {b : Byte}
    (hb : i.inBuf.contents[i.cursor]? = some b) (hw : i.Writes ((Token.literal b).code k mode dict) v) :
    ({ v with cursor := i.cursor + 1 } : IUnit).Follows k mode dict sent pushed ∧
      ({ v with cursor := i.cursor + 1 } : IUnit).Encoding k := by
  have hsize : i.cursor + 1 ≤ i.inBuf.size := length_contents henc.inBufWf ▸ (List.getElem?_eq_some_iff.1 hb).1
  have hwindow : v.window = i.window := by rw [hw.eq]
  have hstay : Machine.evict { v with cursor := i.cursor + 1 } = { v with cursor := i.cursor + 1 } := by
    have hleast := henc.window
    exact evict_of_lt (by dsimp only; rw [hwindow]; omega)
  have hfollows := h.advance henc (token := .literal b) hb (fun _ _ => tokenAt_of_lt hcursor _ b) hsize hw
  have hencoding := (henc.advance hw hsize (by decide) hflag).encoding
  rw [Token.size_literal, hstay] at hfollows
  rw [hstay] at hencoding
  exact ⟨hfollows, hencoding⟩

/-- The first two bytes (R236). -/
theorem IUnit.Follows.firstTwoBytes (hk : k.legal = true) (h : i.Follows k mode dict sent pushed) (henc : i.Encoding k)
    (hfirst : i.handledFirstTwoBytes = false) (hu : Machine.firstTwoBytes i = .next u) :
    u.Follows k mode dict sent pushed := by
  rcases Nat.lt_or_ge i.inBuf.size 3 with h3 | h3
  · cases hu.symm.trans (firstTwoBytes_eq_next.2 (.inl ⟨h3, rfl⟩))
    exact h.withFlag
  have hcursor := henc.firstTwo hfirst
  obtain ⟨b0, b1, v, w, hb0, hb1, hv, hw, hstep, -⟩ := henc.firstTwoBytes_literals hk h3
  cases hu.symm.trans hstep
  have hwrites := henc.withFlag.writes_of_emitLiteral hk (mode := mode) h.modeIs dict hv
  have hwrites' := (henc.withFlag.of_writes hwrites).writes_of_emitLiteral hk (mode := mode)
    (by rw [hwrites.eq]; exact h.modeIs) dict hw
  have hflag : v.handledFirstTwoBytes = true := by rw [hwrites.eq]
  have hin : v.inBuf = i.inBuf := by rw [hwrites.eq]
  -- byte 0, and then byte 1, each with the cursor moved past it as a scan step would
  obtain ⟨hone, henc'⟩ := h.withFlag.firstLiteral henc.withFlag rfl (hcursor ▸ Nat.two_pos) (hcursor ▸ hb0) hwrites
  dsimp only at hone henc'
  rw [hcursor] at hone henc'
  exact (hone.firstLiteral henc' hflag Nat.one_lt_two (hin ▸ hb1) (hwrites'.withCursor 1)).1

/-- The scan, however far it goes (R260). -/
theorem IUnit.Follows.scanRounds (hk : k.legal = true) (fuel : Nat) (h : i.Follows k mode dict sent pushed)
    (henc : i.Encoding k) (hu : Machine.scanRounds k true fuel i = .next u) : u.Follows k mode dict sent pushed := by
  induction fuel generalizing i with
  | zero =>
    cases hu
    exact h
  | succ fuel ih =>
    rcases scanRounds_succ_eq_next.1 hu with ⟨-, rfl⟩ | ⟨hen, j, hj, hrest⟩
    · exact h
    · cases hfirst : i.handledFirstTwoBytes with
      | false =>
        rw [hfirst] at hj
        exact ih (h.firstTwoBytes hk henc hfirst hj) (henc.firstTwoBytes hk hj).encoding hrest
      | true =>
        rw [hfirst] at hj
        exact ih (h.scanStep hk henc hen hj) (henc.scanStep hk (cursor_lt_of_enabled hen) hfirst hj).encoding hrest

/-! ### The packed stream -/

theorem bytes_of_bytesToNat (s : List Byte) :
    (List.range s.length).map (fun n => BitVec.ofNat 8 (bytesToNat s >>> (8 * n))) = s := by
  induction s with
  | nil => rfl
  | cons b s ih =>
    have hb := b.isLt
    rw [List.length_cons, List.range_succ_eq_map, List.map_cons, List.map_map]
    congr 1
    · refine BitVec.eq_of_toNat_eq ?_
      rw [BitVec.toNat_ofNat, bytesToNat, Nat.mul_zero, Nat.shiftRight_zero]
      omega
    · conv_rhs => rw [← ih]
      refine List.map_congr_left fun n _ => ?_
      have htail : bytesToNat (b :: s) >>> 8 = bytesToNat s := by
        rw [bytesToNat, Nat.shiftRight_eq_div_pow]
        omega
      rw [Function.comp_apply, Nat.succ_eq_add_one, Nat.mul_succ, Nat.add_comm, Nat.shiftRight_add, htail]

/-- The bits of a stream after its header, END's last (R264). -/
theorem foldr_followedBy (k : CodeTables) (mode : CompressionMode) (dict : DictionarySize) (tokens : List Token)
    (last : Code) : (tokens.map (Token.code k mode dict)).foldr Code.followedBy last =
      (tokensCode k mode dict tokens).followedBy last := by
  induction tokens with
  | nil => exact (Code.empty_followedBy last).symm
  | cons token tokens ih => rw [List.map_cons, List.foldr_cons, ih, tokensCode_cons, Code.followedBy_assoc]

/-- A unit that holds the bits of a header, some tokens and END has packed them, with what was handed out before (R253,
R264). -/
theorem IUnit.Holds.packed {tokens : List Token} (hb : i.outBuf.wf = true) (hp : i.Packed)
    (h : i.Holds sent ((streamCode k mode dict tokens).followedBy (encode k (.token mode) .endToken))) :
    sent ++ i.outBuf.contents = pack k mode dict tokens := by
  obtain ⟨done, last, hcontents, -, -, hposition⟩ := packed_split hb hp
  have hbits := h.bits
  have hwidth := h.position
  have hout := i.outBits.isLt
  rw [streamCode, Code.followedBy_assoc, ← foldr_followedBy] at hbits hwidth
  rw [hposition] at hwidth
  rw [pack]
  generalize (tokens.map (Token.code k mode dict)).foldr Code.followedBy (encode k (.token mode) .endToken) = all at *
  rw [Code.followedBy_width, show (headerCode mode dict).width = 16 from rfl] at hwidth
  have hlength : (sent ++ i.outBuf.contents).length = all.width / 8 + 3 := by
    rw [hcontents, List.length_append, List.length_append, List.length_singleton]
    omega
  match hs : sent ++ i.outBuf.contents, hlength with
  | m :: d :: rest, hlength =>
    rw [hs, Code.followedBy_bits] at hbits
    obtain ⟨rfl, rfl, hrest⟩ := header_of_bytesToNat hbits
    rw [← hrest, ← Nat.succ.inj (Nat.succ.inj hlength), bytes_of_bytesToNat]

/-- With everything scanned, END completes the summary (R262, R264). -/
theorem IUnit.Follows.emitEnd (hk : k.legal = true) (h : i.Follows k mode dict sent pushed) (henc : i.Encoding k)
    (hdone : i.cursor = i.inBuf.size) (hu : Machine.emitEnd i = .next u) :
    sent ++ u.outBuf.contents = implodeSummary k mode dict pushed := by
  obtain ⟨tokens, hhold, hrest⟩ := h.made
  obtain ⟨_, hu', hw⟩ := emitEnd_writes hk henc
  cases hu.symm.trans hu'
  rw [h.modeIs] at hw
  rw [(hhold.writes hw).packed hw.outBufWf hw.packed, implodeSummary]
  have hend : tokensFrom dict.window.toNat i.inBuf.contents i.cursor = [] :=
    tokensFrom_of_length_le (by rw [length_contents henc.inBufWf, hdone])
  have htokens := hrest [] fun _ => rfl
  rw [List.append_nil, List.append_nil, hend,
    List.append_nil, tokensFrom, Nat.sub_zero] at htokens
  rw [htokens]

end

/-! ### A session -/

/-- The block between two commands of a session with the IMPLODE unit, when the host has pushed the bytes `pushed`: what
has been handed out and what is held are as the summary has them. -/
structure FollowsSummary (cfg : Config) (mode : CompressionMode) (dict : DictionarySize) (pushed : List Byte) (s : State) :
    Prop where
  inv : s.Inv
  params : s.cfg = cfg
  space : s.x.space? = none
  state : s.i.istate = .accumulating
  unit : s.i.Follows cfg.tables mode dict s.delivered pushed

section
variable {cfg : Config} {mode : CompressionMode} {dict : DictionarySize} {pushed bytes : List Byte} {s : State}
  {rest : List HostCommand}

/-- `I.RESET` of the host (R231). -/
theorem followsSummary_reset (hcfg : cfg.legal = true) (mode : CompressionMode) (dict : DictionarySize)
    (commands : List HostCommand) :
    ∃ t, step { State.resetWith cfg with host := ⟨4, [mode.toByte, dict.toByte]⟩ :: commands } = .next t ∧
      t.host = commands ∧ t.responses.length = 1 ∧ FollowsSummary cfg mode dict [] t := by
  have hcmd := step_of_command
    (s := { State.resetWith cfg with host := ⟨4, [mode.toByte, dict.toByte]⟩ :: commands })
    (i := .iReset mode.toByte dict.toByte) (space_resetWith cfg) rfl rfl
  obtain ⟨-, -, hreset⟩ := resetInv
  have hinv := (hreset cfg hcfg).withHost commands
  have hexec := exec_iReset_legal (s := { State.resetWith cfg with host := commands }) (config_legal hinv.cfg).2.2 mode dict
  refine ⟨_, hcmd.trans hexec, rfl, rfl, ?_⟩
  exact
    { inv := State.Inv.execIReset hinv hexec
      params := rfl, space := space_resetWith cfg, state := rfl, unit := follows_setupI cfg.tables mode dict }

/-- An `I.PUSH` of the host (R260). -/
theorem followsSummary_push (hhold : cfg.lookaheadHold = true) (h : FollowsSummary cfg mode dict pushed s)
    (hh : s.host = ⟨5, bytes⟩ :: rest) :
    ∃ t, step s = .next t ∧ t.host = rest ∧ t.responses.length = s.responses.length + 1 ∧
      FollowsSummary cfg mode dict (pushed ++ bytes) t := by
  obtain ⟨hinv, rfl, hspace, hstate, hunit⟩ := h
  obtain ⟨-, -, hk⟩ := config_legal hinv.cfg
  obtain ⟨henc, hopen⟩ := hinv.i.accumulating hstate
  obtain ⟨-, -, hpush⟩ := iPushResult
  obtain ⟨j, b, hscan, -, hjenc, hexec, hcontents⟩ := hpush { s with host := rest } bytes hinv.cfg hinv.i hstate
  have hstep := (step_of_command (i := .iPush bytes) hspace hh rfl).trans hexec
  have hinv' := stepKeepsInv s _ hinv hstep
  obtain ⟨hbenc, -⟩ := hinv'.i.accumulating rfl
  refine ⟨_, hstep, rfl, by simp, hinv', rfl, hspace, rfl, ?_⟩
  dsimp only at hscan
  rw [hhold] at hscan
  have hj := (hunit.append henc.inBufWf hopen bytes).scanRounds hk _ (henc.append bytes) hscan
  rw [delivered_respond]
  refine hj.drained hjenc.outBufWf hbenc.outBufWf ?_ hbenc.outBuf_pos
  rw [hcontents, List.take_append_drop]

/-- The pushes of a session, one after the other. -/
theorem followsSummary_pushes (hhold : cfg.lookaheadHold = true) (chunks : List (List Byte))
    (h : FollowsSummary cfg mode dict pushed s) (hh : s.host = chunks.map (fun c => ⟨5, c⟩) ++ rest) :
    ∃ t, Reaches s t ∧ t.host = rest ∧ t.responses.length = s.responses.length + chunks.length ∧
      FollowsSummary cfg mode dict (pushed ++ chunks.flatten) t := by
  induction chunks generalizing pushed s with
  | nil => exact ⟨s, reaches_refl s, hh, rfl, by rwa [List.flatten_nil, List.append_nil]⟩
  | cons c chunks ih =>
    obtain ⟨t₁, hstep, hhost₁, hresp₁, h₁⟩ := followsSummary_push hhold h hh
    obtain ⟨t, hreach, hhost, hresp, h'⟩ := ih h₁ hhost₁
    refine ⟨t, (reaches_of_step hstep).trans hreach, hhost, ?_, ?_⟩
    · rw [hresp, hresp₁, List.length_cons]; omega
    · rwa [List.flatten_cons, ← List.append_assoc]

/-- `I.FINISH` of the host: everything has been handed out, and it is the summary (R262, R264). -/
theorem followsSummary_finish (hhold : cfg.lookaheadHold = true) (h : FollowsSummary cfg mode dict pushed s)
    (hh : s.host = ⟨6, []⟩ :: rest) :
    ∃ t last, step s = .next t ∧ t.x.space? = none ∧ t.host = rest ∧ t.responses = s.responses ++ [last] ∧
      (last.status, last.err) = (.done, .none) ∧ t.delivered = implodeSummary cfg.tables mode dict pushed := by
  obtain ⟨hinv, rfl, hspace, hstate, hunit⟩ := h
  obtain ⟨-, -, hk⟩ := config_legal hinv.cfg
  obtain ⟨henc, hopen⟩ := hinv.i.accumulating hstate
  obtain ⟨j, u, b, hscan, hdone, hend, hexec, -⟩ := iFinishResult { s with host := rest } hinv.cfg hinv.i hstate
  have hstep := (step_of_command (i := .iFinish) hspace hh rfl).trans hexec
  refine ⟨_, _, hstep, hspace, rfl, rfl, rfl, ?_⟩
  dsimp only at hscan
  have hjenc := (henc.ending.scanLoop hk hscan).encoding
  rw [hhold] at hscan
  have hj := (hunit.ending hopen).scanRounds hk _ henc.ending hscan
  rw [delivered_respond]
  exact hj.emitEnd hk hjenc hdone hend

end

/-- Settles O59: with the hold no token the scan emits depends on bytes to come (`IUnit.Follows.scanStep`), so what a session
hands out is the summary, whatever the chunks. -/
theorem implodeChunks : Obligations.ImplodeChunks := by
  intro cfg mode dict chunks hcfg hhold
  obtain ⟨t₀, hstep₀, hhost₀, hresp₀, h₀⟩ :=
    followsSummary_reset hcfg mode dict (chunks.map (fun c => ⟨5, c⟩) ++ [⟨6, []⟩])
  obtain ⟨t₁, hreach₁, hhost₁, hresp₁, h₁⟩ := followsSummary_pushes hhold chunks h₀ hhost₀
  rw [List.nil_append] at h₁
  obtain ⟨t, last, hstep, hspace, hhost, hresp, hlast, hout⟩ := followsSummary_finish hhold h₁ hhost₁
  obtain ⟨n, hn⟩ := ((reaches_of_step hstep₀).trans hreach₁).trans (reaches_of_step hstep)
  refine ⟨n, t, hn, fetch_idle hspace hhost, ?_, hout, ?_⟩
  · rw [hresp, List.length_append, hresp₁, hresp₀]
    simp [implodeSession]
    omega
  · rw [hresp, List.getLast?_append]
    exact congrArg some hlast

end Sys2Proof.Machine
end
